-- ==== Sys2Proof/Config.lean ====
section
/-! DEFINITION. The figures the manual fixes for the MC-340 ("Numbers at a glance" and the rules named at
each one). Nothing here is left open by the manual, so there is no free value. Times are in microseconds. -/

namespace Sys2Proof.Config

/-- Entries of the extent table (R17). -/
def extentEntries : Nat := 48
/-- Sectors of a granule (R5). -/
def granule : Nat := 64
/-- The largest limit L of an extent entry (R18). -/
def topLimit : Nat := 1023
/-- The highest offset (R18). -/
def topOffset : Nat := 65535
/-- Places of the work queue (R78). -/
def queuePlaces : Nat := 8
/-- Slots of the sector buffer (R119). -/
def slots : Nat := 32
/-- Slots the items behind the front may hold between them (R121). -/
def slotsBehindFront : Nat := 24
/-- Descriptors of the descriptor table (R133). -/
def descriptors : Nat := 32
/-- Lanes (R137). -/
def lanes : Nat := 4
/-- Items a lane may have in the queue (R137, R141). -/
def itemsPerLane : Nat := 2
/-- Blocks of one RUN piece at most, and of one order (R141, R79 step 4). -/
def pieceBlocks : Nat := 256
/-- Entries of the replacement list at most (R57). -/
def listEntries : Nat := 1024
/-- List entries in one control-zone sector (R9). -/
def entriesPerSector : Nat := 128
/-- The largest U (R5, R8). -/
def maxUsers : Nat := 524288
/-- The largest S (R5, R8). -/
def maxSpares : Nat := 2048
/-- Relocations of one block within one item (R64). -/
def relocations : Nat := 3
/-- Read attempts for one target (R112). -/
def readAttempts : Nat := 3
/-- Index arrivals of a pass before an unseen target is missing (R104). -/
def passRevolutions : Nat := 4
/-- The corrected total saturates here (R89). -/
def correctedTop : Nat := 65535
/-- Lane block indices count modulo this (R141). -/
def indexModulus : Nat := 65536
/-- The seek timer: 60 ms (R101). -/
def seekTime : Nat := 60000
/-- The bias timer: 20 ms (R105). -/
def biasTime : Nat := 20000
/-- The hold timer: 1.5 s (R106). -/
def holdTime : Nat := 1500000
/-- The data timeout: 2 s (R127). -/
def dataTime : Nat := 2000000
/-- The spin-up timer: 6 s (R153). -/
def spinUpTime : Nat := 6000000
/-- The revolution counter value at which the index is lost (R159). -/
def counterTop : Nat := 65535
/-- The low end of the speed window (R160). -/
def windowLow : Nat := 16334
/-- The high end of the speed window (R160). -/
def windowHigh : Nat := 17000
/-- Bytes the receive assembly holds at most: 1040 of content and 2 of CRC (R163, R164). -/
def assemblyTop : Nat := 1042
/-- Parameter bytes an order frame can carry: 1040 of content less the four-byte header (R163, R166). -/
def parameterTop : Nat := 1036
/-- The identity word of a format record (R7). -/
def formatIdentity : Nat := 0xC340
/-- The identity word of a replacement list image (R9). -/
def listIdentity : Nat := 0xC341
/-- The identity word of an extent table image (R11). -/
def extentIdentity : Nat := 0xC342

end Sys2Proof.Config
end

