-- ==== Sys2Proof/Word.lean ====
section
/-! DEFINITION. The words of the Pargeta MC-340 model: bytes of the link and of the cartridge, and the
1024-byte block of workstation data (Terms and abbreviations: block). -/

namespace Sys2Proof

/-- One byte of a link frame or of a cartridge record. -/
abbrev Byte := BitVec 8

/-- A field of 16 bits. -/
abbrev Word16 := BitVec 16

/-- The data of one block or sector: 1024 bytes (Terms: block), held as a list. -/
abbrev Block := List Byte

/-- 1024 zero bytes: what the data of a slot is until something fills it (the spec gives that data no
meaning, R119). -/
def zeroBlock : Block := List.replicate 1024 0

end Sys2Proof
end

