-- ==== Sys2Proof/Machine/Bytes.lean ====
section
/-! DEFINITION. Byte order, the cyclic redundancy check and the frame escapes (R6, R163). -/

namespace Sys2Proof.Machine

/-- The low `n` bytes of `v`, high-order byte first (R6, R172). -/
def toBytes : Nat → Nat → List Byte
  | 0, _ => []
  | n + 1, v => BitVec.ofNat 8 (v / 256 ^ n) :: toBytes n v

/-- The number a multi-byte field holds, high-order byte first (R6, R172). -/
def ofBytes (bs : List Byte) : Nat := bs.foldl (fun a b => a * 256 + b.toNat) 0

/-- `n` bytes of `bs` from byte `i` as a number; bytes beyond the end read as 0. -/
def field (bs : List Byte) (i n : Nat) : Nat :=
  ofBytes ((List.range n).map (fun k => bs.getD (i + k) 0))

/-- The first `k` chunks of `n` bytes each. -/
def chunks (n : Nat) : Nat → List Byte → List (List Byte)
  | 0, _ => []
  | k + 1, bs => bs.take n :: chunks n k (bs.drop n)

/-- `bs` filled with zero bytes to `n` bytes (R3: the rest of a record's sector is zero). -/
def padTo (n : Nat) (bs : List Byte) : List Byte := bs ++ List.replicate (n - bs.length) 0

/-- One bit of the check computation with the polynomial x^16 + x^12 + x^5 + 1 (R6). -/
def crcShift (c : BitVec 16) : BitVec 16 :=
  if c.msb then (c <<< 1) ^^^ 0x1021#16 else c <<< 1

/-- One byte entered into the check computation, most significant bit first (R6). -/
def crcByte (c : BitVec 16) (b : Byte) : BitVec 16 :=
  (List.range 8).foldl (fun c _ => crcShift c) (c ^^^ (b.setWidth 16 <<< 8))

/-- The check value of `bs`: initial value FFFFh, not inverted (R6, R163). -/
def crc16 (bs : List Byte) : BitVec 16 := bs.foldl crcByte 0xFFFF#16

/-- The start byte of a frame (R163). -/
def startByte : Byte := 0xA5#8
/-- The end byte of a frame (R163). -/
def endByte : Byte := 0x5A#8
/-- The escape byte (R163). -/
def escapeMark : Byte := 0x3C#8

/-- The escape of one byte: A5h, 5Ah and 3Ch are sent as 3Ch and the byte with bit 5 inverted (R163). -/
def escapeByte (b : Byte) : List Byte :=
  if b = startByte ∨ b = endByte ∨ b = escapeMark then [escapeMark, b ^^^ 0x20#8] else [b]

/-- A frame's content on the wire: start byte, escaped content and CRC, end byte (R163). -/
def wireOf (content : List Byte) : List Byte :=
  startByte ::
    ((content ++ toBytes 2 (crc16 content).toNat).flatMap escapeByte ++ [endByte])

end Sys2Proof.Machine
end

