-- ==== Sys2Proof/Syntax.lean ====
section
/-! DEFINITION. The commands of the MC-340: one constructor of `Instr` for each row of
spec/opcode_table.json. A command is an order or a data frame that has arrived whole on the workstation
link, an event of the drive mechanism port, the expiry of a timer, or one of the part's own steps.

An order carries its class byte, its tag and its parameter bytes exactly as they stand in the frame
(R166, R172), so that the length test, the class test and the ignored bits are the meaning's affair. -/

namespace Sys2Proof

/-- What a data frame or a work item belongs to: an order tag or a lane number (R172). A lane number in a
received frame may be any byte (R165). -/
inductive Route where
  | tag (t : Byte)
  | lane (n : Nat)
  deriving DecidableEq, Repr

/-- The result a read data event carries (R13). -/
inductive ReadResult where
  /-- the corrected sector data and the number of corrected symbols, 0 to 16 -/
  | delivered (data : Block) (corrected : Nat)
  | uncorrectable
  deriving DecidableEq, Repr

/-- The levels of the three strap pins; `true` is high (chapter 11.1). -/
structure Straps where
  extentSource : Bool
  verify : Bool
  listUpdate : Bool
  deriving DecidableEq, Repr

/-- The commands: one constructor per row of spec/opcode_table.json. -/
inductive Instr where
  -- orders (R170)
  | fetch (cls tag : Byte) (params : List Byte)
  | place (cls tag : Byte) (params : List Byte)
  | blank (cls tag : Byte) (params : List Byte)
  | storeExtents (cls tag : Byte) (params : List Byte)
  | flushList (cls tag : Byte) (params : List Byte)
  | unload (cls tag : Byte) (params : List Byte)
  | startLane (cls tag : Byte) (params : List Byte)
  | stopLane (cls tag : Byte) (params : List Byte)
  | loadExtents (cls tag : Byte) (params : List Byte)
  | showExtents (cls tag : Byte) (params : List Byte)
  | markAll (cls tag : Byte) (params : List Byte)
  | showList (cls tag : Byte) (params : List Byte)
  | loadDescriptors (cls tag : Byte) (params : List Byte)
  | showDescriptors (cls tag : Byte) (params : List Byte)
  | showFault (cls tag : Byte) (params : List Byte)
  | clearFault (cls tag : Byte) (params : List Byte)
  | setProfile (cls tag : Byte) (params : List Byte)
  | showState (cls tag : Byte) (params : List Byte)
  | restart (cls tag : Byte) (params : List Byte)
  /-- an order frame whose kind byte `kind` is not in the catalogue (R166) -/
  | unknownOrder (kind cls tag : Byte) (params : List Byte)
  /-- the bytes of a frame that the Link Interface discards at its end byte (R165, R166) -/
  | badFrame (wire : List Byte)
  /-- an inbound data frame: route, block index and 1024 bytes (R124, R172) -/
  | dataFrame (route : Route) (index : Word16) (data : Block)
  -- the outbound side of the link
  | sendBlock
  | dataFrameProduced
  | frameSent
  -- the drive mechanism port (R12, R13, R14, R101, R105)
  | sectorIdArrival (track sector : Nat) (blankMark : Bool)
  /-- an index arrival, `elapsed` microseconds after the value the revolution counter stands at (R159) -/
  | indexArrival (elapsed : Nat)
  | readDataEvent (track sector : Nat) (result : ReadResult)
  | verifyCompareResult (track sector : Nat) (isMatch : Bool)
  | seekComplete
  | biasReady
  /-- an insertion; `tab` is true when the sensed write-protect tab says protected (R15, R153) -/
  | insertion (tab : Bool)
  | ejectButton
  | cartridgeLost
  -- the reset line (R179)
  | hardwareResetAsserted
  /-- the release of hardware reset with the strap levels, and the sensed tab of the cartridge that is
  present, if one is -/
  | hardwareResetReleased (straps : Straps) (cartridge : Option Bool)
  -- expiries and limits
  | seekTimeout
  | biasTimeout
  | holdTimeout
  | spinUpTimeout
  | dataTimeout
  | indexLost
  | sectorMissing
  -- the part's own steps
  | itemTakeUp
  | writeBackRequestServed
  | lanePost (lane : Nat)
  | pendingPostPlaced
  | unloadCompletion
  /-- bytes of a partial frame that the receiver discards before any end of frame (R164) -/
  | abort (wire : List Byte)
  deriving DecidableEq, Repr

end Sys2Proof
end

