-- ==== Sys2Proof/Machine/State.lean ====
section
/-! DEFINITION. The state of the MC-340 as plain data: every block's tables, queues, counters, timers and
modes (chapters 1 to 11), the frames of the outbound sequence, the queue of waiting commands, and the state
after reset. The rule named at each type or field is the one that gives it. -/

namespace Sys2Proof.Machine

/-- The part never stops: to every order, frame and event the spec gives an effect, a refusal report or "is
passed over", so no meaning raises a fault and this closed type has no constructor (log entry 1; safe). -/
inductive Fault : Type
  deriving DecidableEq, Repr

/-- Why the model gives a command no meaning. -/
inductive Refusal where
  /-- raised by an arm of exec whose command has no meaning yet (none is left); safe: nothing is claimed -/
  | notModelled (mnemonic : String)
  deriving DecidableEq, Repr

/-! ### The cartridge and the drive (chapters 1, 9, 11) -/

/-- The privilege of an order (Terms: class). -/
inductive OrderClass where
  | ordinary
  | service
  deriving DecidableEq, Repr

/-- The media kinds (R1). -/
inductive MediaKind where
  | e
  | d
  | w
  deriving DecidableEq, Repr

/-- One zone of the zone table (R4). -/
structure Zone where
  first : Nat
  tracks : Nat
  spt : Nat
  deriving DecidableEq, Repr

/-- The facts taken from a valid format record (R7): kind, zone table, T, U and S. -/
structure Facts where
  kind : MediaKind
  zones : List Zone
  total : Nat
  users : Nat
  spares : Nat
  deriving DecidableEq, Repr

/-- The drive states (R152). -/
inductive DriveState where
  | empty
  | spinningUp
  | mounting
  | ready
  | unloading
  | faulted
  deriving DecidableEq, Repr

/-- The mount fault causes (R152). -/
inductive MountFault where
  | spin
  | format
  | list
  deriving DecidableEq, Repr

/-- Where the extent table comes from at mount (R173). -/
inductive ExtentSource where
  | link
  | cartridge
  deriving DecidableEq, Repr

/-- When the list goes back to the cartridge (R66, R173). -/
inductive ListUpdate where
  | immediate
  | deferred
  deriving DecidableEq, Repr

/-- The start profile (R173); `verify` is true for ON. -/
structure Profile where
  extentSource : ExtentSource
  verify : Bool
  listUpdate : ListUpdate
  deriving DecidableEq, Repr

/-- The speed status (R160). -/
inductive SpeedStatus where
  | offSpeed
  | inSpeed
  deriving DecidableEq, Repr

/-- What the Drive Supervisor holds (R152, R16, R159, R160) beside the profile. A timer is `some` of the
microseconds it has run, or `none` when stopped. -/
structure Drive where
  state : DriveState
  /-- true: the spindle is commanded ON -/
  spindle : Bool
  spinUp : Option Nat
  mountFault : Option MountFault
  mountSource : ExtentSource
  /-- UNLOAD tags waiting for the release, in arrival order -/
  answers : List Byte
  /-- the unload's one write-back attempt has had its result, a failure (R157, R74) -/
  tried : Bool
  facts : Option Facts
  /-- the tab fact: `some true` is protected, `none` is absent -/
  tab : Option Bool
  counter : Nat
  /-- the last period, `none` when unknown -/
  period : Option Nat
  tracking : Bool
  speed : SpeedStatus
  /-- consecutive in-window periods, 0 to 2 -/
  good : Nat
  deriving DecidableEq, Repr

/-! ### Extents and the fault record (chapters 2, 3) -/

/-- An entry of the extent table (R17). -/
structure Extent where
  v : Bool
  base : BitVec 13
  limit : BitVec 10
  ro : Bool
  sv : Bool
  si : Bool
  oi : Bool
  ds : Bool
  wa : Bool
  rf : Bool
  ch : Bool
  deriving DecidableEq, Repr

/-- An entry with V = 0 and every other field 0 (R38). -/
def Extent.blank : Extent :=
  ⟨false, 0, 0, false, false, false, false, false, false, false, false⟩

/-- A set of protection causes (R40). -/
structure CauseSet where
  absent : Bool
  range : Bool
  roWrite : Bool
  serviceOnly : Bool
  laneInhibit : Bool
  orderInhibit : Bool
  deriving DecidableEq, Repr

/-- The empty cause set. -/
def CauseSet.empty : CauseSet := ⟨false, false, false, false, false, false⟩

/-- The kinds of access the Resolution Unit checks (R39). -/
inductive AccessKind where
  | fetch
  | place
  | blank
  | startLane
  | lanePost
  deriving DecidableEq, Repr

/-- An access as the Resolution Unit takes it (R39). -/
structure Access where
  kind : AccessKind
  cls : OrderClass
  route : Route
  extent : Nat
  first : Nat
  last : Nat
  deriving DecidableEq, Repr

/-- A captured or reporting access (R44, R51): `offset` is the first offending offset. -/
structure Captured where
  extent : Nat
  offset : Nat
  route : Route
  kind : AccessKind
  cls : OrderClass
  deriving DecidableEq, Repr

/-- The fault record (R44). `captured` is `none` exactly in the state EMPTY. -/
structure FaultRecord where
  causes : CauseSet
  edge : Bool
  secondEdge : Bool
  overrun : Bool
  captured : Option Captured
  deriving DecidableEq, Repr

/-- The EMPTY record: every field 0 (R44). -/
def FaultRecord.empty : FaultRecord := ⟨CauseSet.empty, false, false, false, none⟩

/-- The states of the fault record (R45). -/
inductive FaultState where
  | empty
  | held
  | heldOverrun
  deriving DecidableEq, Repr

/-! ### The replacement list (chapter 4) -/

/-- An entry of the replacement list (R57). -/
structure ListEntry where
  source : Nat
  spare : Nat
  deriving DecidableEq, Repr

/-- What the Replacement List Unit holds (R57, R58, R59, R69). -/
structure ReplacementList where
  loaded : Bool
  entries : List ListEntry
  /-- the next-spare index n -/
  next : Nat
  dirty : Bool
  /-- the write-back request -/
  request : Bool
  deriving DecidableEq, Repr

/-- A list that is not loaded (R57). -/
def ReplacementList.unloaded : ReplacementList := ⟨false, [], 0, false, false⟩

/-! ### The work queue (chapter 5) -/

/-- The outcomes of a work item (R91, R171). -/
inductive ItemOutcome where
  | ok
  | readFailed
  | writeFailed
  | sectorMissing
  | seekFailed
  | alreadyWritten
  | eraseFailed
  | spindle
  | biasFailed
  | dataOrder
  | dataTimeout
  | mediaGone
  deriving DecidableEq, Repr

/-- The cause beside an outcome: `none` but for WRITE_FAILED (R87a, R171). -/
inductive WriteCause where
  | none
  | noSpare
  | listFull
  | chain
  | verify
  deriving DecidableEq, Repr

/-- The kinds of a work item (R77). -/
inductive ItemKind where
  | fetch
  | place
  | blank
  | store
  | flush
  deriving DecidableEq, Repr

/-- The states of a work item (R78). -/
inductive ItemState where
  | waiting
  | inService
  | delivering
  deriving DecidableEq, Repr

/-- A work item (R77). `id` is the model's own handle by which slots name their holder; `given` counts the
leading blocks that have been given a slot (R120), `sent` the leading blocks whose data frames have been
produced (R129), `frameBase` is the frame index of block 0 (R122), and `ended` holds the outcome of a FETCH
item that is DELIVERING (R87). -/
structure WorkItem where
  id : Nat
  route : Route
  kind : ItemKind
  extent : Option Nat
  first : Option Nat
  count : Nat
  blocksDone : Nat
  corrected : Nat
  replacements : Nat
  /-- the verify snapshot, true for ON -/
  snapshot : Bool
  state : ItemState
  given : Nat
  sent : Nat
  frameBase : Nat
  ended : Option (ItemOutcome × WriteCause)
  deriving DecidableEq, Repr

/-! ### The sector buffer (chapter 7) -/

/-- The slot states (R119). -/
inductive SlotState where
  | free
  | awaiting
  | full
  | written
  | reading
  | ready
  | sending
  deriving DecidableEq, Repr

/-- A slot of the sector buffer (R119); the holder is the `id` of a work item. -/
structure Slot where
  state : SlotState
  holder : Option Nat
  block : Nat
  frameIndex : Nat
  data : Block
  deriving DecidableEq, Repr

/-- A FREE slot whose data nothing has filled yet. -/
def Slot.blank : Slot := ⟨.free, none, 0, 0, zeroBlock⟩

/-! ### Lanes (chapter 8) -/

/-- The pattern modes of a descriptor (R133). -/
inductive PatternMode where
  | none
  | run
  | band
  | ring
  deriving DecidableEq, Repr

/-- A descriptor (R133); the link byte above 31 means none. -/
structure Descriptor where
  mode : PatternMode
  extent : Byte
  start : Word16
  band : Word16
  stride : Word16
  count : Word16
  link : Byte
  notify : Byte
  deriving DecidableEq, Repr

/-- Mode NONE and every other field 0 (R151). -/
def Descriptor.blank : Descriptor := ⟨.none, 0, 0, 0, 0, 0, 0, 0⟩

/-- The lane states (R138). -/
inductive LaneState where
  | idle
  | active
  | draining
  | halted
  deriving DecidableEq, Repr

/-- Why a lane is HALTED (R148). -/
inductive HaltCause where
  | causes (c : CauseSet)
  | outcome (o : ItemOutcome) (c : WriteCause)
  | beyondMedia
  | badDescriptor
  | unload
  | overrun
  deriving DecidableEq, Repr

/-- A checked lane piece: a pending post, or one about to become an item (R83, R141). -/
structure Piece where
  extent : Nat
  first : Nat
  count : Nat
  frameBase : Nat
  deriving DecidableEq, Repr

/-- A lane (R137). The pending mark is set exactly when `pendingPost` is `some`; the lane's queued items are
counted from the work queue. -/
structure Lane where
  state : LaneState
  descriptor : Nat
  offset : Nat
  remaining : Nat
  nextIndex : Nat
  completed : Nat
  pendingPost : Option Piece
  cls : OrderClass
  halt : Option HaltCause
  /-- the outstanding stops: STOP LANE tags in arrival order -/
  stops : List Byte
  deriving DecidableEq, Repr

/-- A lane at hardware reset (R151). -/
def Lane.reset : Lane := ⟨.idle, 0, 0, 0, 0, 0, none, .ordinary, none, []⟩

/-! ### The head (chapter 6) -/

/-- The bias state (R105). -/
inductive Bias where
  | unset
  | erase
  | write
  | switching
  deriving DecidableEq, Repr

/-- The kinds of pass (R96). -/
inductive PassKind where
  | erase
  | write
  | verify
  | blankCheck
  | read
  deriving DecidableEq, Repr

/-- What the head is waiting for (R96). -/
inductive Activity where
  | idle
  | waitingData
  | waitingSlot
  | seeking
  | biasing
  | holding
  | awaitingStart
  | inPass
  deriving DecidableEq, Repr

/-- For whom a write-back task runs: the write-back request (R69), the unload (R74), or an item that was
ended from outside while its write-back was in flight (R114). -/
inductive WriteBackFor where
  | request
  | unload
  | endedItem
  deriving DecidableEq, Repr

/-- The control reads of a mount (R100, R115). -/
inductive ControlRead where
  | format
  | listHeader
  | listEntries
  | extents
  deriving DecidableEq, Repr

/-- The head's task (R97). -/
inductive Task where
  | none
  | item
  | writeBack (w : WriteBackFor)
  | controlRead (r : ControlRead)
  deriving DecidableEq, Repr

/-- What the current run is for: blocks of the item, a rewrite at a spare just allocated (R109), the STORE
image, a list write-back (R116), or a control read (R115). -/
inductive RunWork where
  | blocks
  | rewrite
  | store
  | listImage
  | control
  deriving DecidableEq, Repr

/-- Where a target of the pass stands in the current round (R103): still to be acted on, acted on with its
result called for, or dealt with (`good`: erased, written, blank, delivered or matched; `bad`:
uncorrectable or failed). -/
inductive Stage where
  | toAct
  | awaiting
  | good
  | bad
  deriving DecidableEq, Repr

/-- A target sector of a run with its block (its sector number for control-zone work), whether the pass has
acted on it at all (R104), and the read attempts made on it (R112). -/
structure Target where
  sector : Nat
  block : Nat
  stage : Stage
  seen : Bool
  attempts : Nat
  deriving DecidableEq, Repr

/-- A run: one track and its targets in ascending order (R99, R100). -/
structure Run where
  track : Nat
  targets : List Target
  work : RunWork
  deriving DecidableEq, Repr

/-- What the Head Sequencer holds (R96). `later` are the passes the run still needs after `pass`; `begun` is
true once the pass has begun, so that a pass suspended by a wrong-track arrival resumes (R102); `image` is
the control image; `readIn` holds the sectors a control read has delivered so far, by sector number. -/
structure Head where
  task : Task
  activity : Activity
  /-- the head track, `none` when unknown -/
  track : Option Nat
  bias : Bias
  run : Option Run
  pass : PassKind
  begun : Bool
  later : List PassKind
  revs : Nat
  seekIssues : Nat
  wrongTracks : Nat
  relocations : Nat
  failing : List Nat
  matched : List Nat
  image : List Block
  readIn : List (Nat × Block)
  seekTimer : Option Nat
  biasTimer : Option Nat
  holdTimer : Option Nat
  deriving DecidableEq, Repr

/-- The head after hardware reset (R96). -/
def Head.reset : Head :=
  { task := .none, activity := .idle, track := none, bias := .unset, run := none, pass := .read,
    begun := false, later := [], revs := 0, seekIssues := 0, wrongTracks := 0, relocations := 0,
    failing := [], matched := [], image := [], readIn := [], seekTimer := none, biasTimer := none,
    holdTimer := none }

/-- An action the part commands at the drive mechanism port ("the actions it commands", Scope). -/
inductive PortAction where
  | spindleOn
  | spindleOff
  | release
  | seek (track : Nat)
  | switchBias (polarity : Bias)
  | erase (track sector : Nat)
  | write (track sector : Nat) (data : Block)
  | read (track sector : Nat)
  | compare (track sector : Nat) (data : Block)
  deriving DecidableEq, Repr

/-! ### The workstation link (chapter 10) -/

/-- The receiver states (R164). -/
inductive RxState where
  | hunting
  | assembling
  | escaped
  deriving DecidableEq, Repr

/-- The receiver and its assembly (R164). -/
structure Receiver where
  state : RxState
  assembly : List Byte
  deriving DecidableEq, Repr

/-- HUNTING with the assembly empty (R164). -/
def Receiver.hunting : Receiver := ⟨.hunting, []⟩

/-- The refusal codes (R171). -/
inductive Code where
  | ok
  | unknownOrder
  | badLength
  | cls
  | noMedia
  | unloading
  | tagBusy
  | badCount
  | mediaKind
  | writeProtected
  | violation
  | beyondMedia
  | queueFull
  | inUse
  | laneBusy
  | badDescriptor
  deriving DecidableEq, Repr

/-- A lane as SHOW STATE reports it (R176): its fields and its queued items. -/
structure LaneView where
  lane : Lane
  queued : Nat
  deriving DecidableEq, Repr

/-- The body of SHOW STATE (R172, R176). -/
structure Snapshot where
  drive : DriveState
  mountFault : Option MountFault
  kind : Option MediaKind
  tab : Option Bool
  users : Nat
  spares : Nat
  speed : SpeedStatus
  period : Option Nat
  bias : Bias
  free : Nat
  profile : Profile
  fault : FaultState
  loaded : Bool
  dirty : Bool
  listCount : Nat
  lanes : List LaneView
  items : List (Route × ItemKind × ItemState)
  deriving DecidableEq, Repr

/-- The bodies of ANSWER (R169, R172). -/
inductive Body where
  | none
  | causes (c : CauseSet)
  | count (n : Nat)
  | extents (first count : Nat) (entries : List Extent)
  | list (count next spares users : Nat) (dirty : Bool) (entries : List ListEntry)
  | descriptors (first count : Nat) (entries : List Descriptor)
  | fault (r : FaultRecord)
  | stopped (lane descriptor completed : Nat)
  | profile (p : Profile)
  | state (s : Snapshot)
  deriving DecidableEq, Repr

/-- The marks of NOTICE FAULT and NOTICE NEAR_FULL (R51). -/
inductive FaultMark where
  | first
  | overrun
  | second
  deriving DecidableEq, Repr

/-- The notices (R172). -/
inductive Notice where
  /-- FAULT: mark, record after the change, reporting cause set and access (R51) -/
  | fault (mark : FaultMark) (record : FaultRecord) (causes : CauseSet) (access : Captured)
  /-- NEAR_FULL: as FAULT, the reporting cause set being EDGE (R51) -/
  | nearFull (mark : FaultMark) (record : FaultRecord) (access : Captured)
  | stray (route : Route) (index : Nat)
  | laneDone (lane descriptor completed : Nat)
  | laneHalted (lane descriptor : Nat) (cause : HaltCause) (completed : Nat)
  | listWriteFailed (count next : Nat) (outcome : ItemOutcome) (cause : WriteCause)
  /-- LIST_LOST: `atLoss` is true for the mark LOSS and false for UNLOAD -/
  | listLost (atLoss : Bool) (count next : Nat)
  | mediaReady (kind : MediaKind) (tab : Option Bool) (users spares count next : Nat)
      (speed : SpeedStatus)
  | mountFailed (cause : MountFault)
  /-- MEDIA_GONE: `atLoss` is true for the cause LOSS and false for UNLOAD -/
  | mediaGone (atLoss : Bool)
  | speedLost (period : Option Nat)
  | speedBack (period : Nat)
  | tableMissing
  deriving DecidableEq, Repr

/-- A frame of the outbound sequence (R169, R172). -/
inductive Frame where
  | answer (kind tag : Byte) (code : Code) (body : Body)
  | done (tag : Byte) (outcome : ItemOutcome) (cause : WriteCause)
      (blocksDone corrected replacements : Nat)
  | credit (route : Route) (count : Nat)
  | notice (n : Notice)
  /-- a read data frame -/
  | data (tag : Byte) (index : Nat) (data : Block)
  deriving DecidableEq, Repr

/-! ### The whole state -/

/-- The state of the part. `outbound` is the outbound sequence, its front frame being the one that is being
sent (R168). `line` and `port` are what the part has put out so far on the link, byte by byte, and at the
mechanism port; `nextId` is the model's source of item handles; `pending` is the queue of waiting commands. -/
structure State where
  drive : Drive
  profile : Profile
  extents : List Extent
  fault : FaultRecord
  list : ReplacementList
  queue : List WorkItem
  nextId : Nat
  head : Head
  slots : List Slot
  dataTimer : Option Nat
  descriptors : List Descriptor
  lanes : List Lane
  receiver : Receiver
  outbound : List Frame
  line : List Byte
  port : List PortAction
  /-- true while the reset line is asserted (R179) -/
  held : Bool
  pending : List Instr
  deriving DecidableEq, Repr

/-- The Drive Supervisor at hardware reset (R152, R16, R159, R160). -/
def Drive.reset : Drive :=
  { state := .empty, spindle := false, spinUp := none, mountFault := none, mountSource := .link,
    answers := [], tried := false, facts := none, tab := none, counter := 0, period := none,
    tracking := false, speed := .offSpeed, good := 0 }

/-- The profile with every strap low (chapter 11.1): DESIGN CHOICE for the value before the first release of
hardware reset has sampled the straps (log entry 3). -/
def Profile.strapsLow : Profile := ⟨.link, true, .deferred⟩

/-- The part right after hardware reset (R179 and the rules it gathers), with the line released, every strap
low and no cartridge present (log entries 2 and 3). -/
def State.reset : State :=
  { drive := Drive.reset
    profile := Profile.strapsLow
    extents := List.replicate Config.extentEntries Extent.blank
    fault := FaultRecord.empty
    list := ReplacementList.unloaded
    queue := []
    nextId := 0
    head := Head.reset
    slots := List.replicate Config.slots Slot.blank
    dataTimer := none
    descriptors := List.replicate Config.descriptors Descriptor.blank
    lanes := List.replicate Config.lanes Lane.reset
    receiver := Receiver.hunting
    outbound := []
    line := []
    port := []
    held := false
    pending := [] }

/-! ### One update per field -/

/-- `s` with its drive replaced. -/
def State.setDrive (v : Drive) (s : State) : State := { s with drive := v }
/-- `s` with its profile replaced. -/
def State.setProfile (v : Profile) (s : State) : State := { s with profile := v }
/-- `s` with its extents replaced. -/
def State.setExtents (v : List Extent) (s : State) : State := { s with extents := v }
/-- `s` with its fault replaced. -/
def State.setFault (v : FaultRecord) (s : State) : State := { s with fault := v }
/-- `s` with its list replaced. -/
def State.setList (v : ReplacementList) (s : State) : State := { s with list := v }
/-- `s` with its queue replaced. -/
def State.setQueue (v : List WorkItem) (s : State) : State := { s with queue := v }
/-- `s` with its nextId replaced. -/
def State.setNextId (v : Nat) (s : State) : State := { s with nextId := v }
/-- `s` with its head replaced. -/
def State.setHead (v : Head) (s : State) : State := { s with head := v }
/-- `s` with its slots replaced. -/
def State.setSlots (v : List Slot) (s : State) : State := { s with slots := v }
/-- `s` with its dataTimer replaced. -/
def State.setDataTimer (v : Option Nat) (s : State) : State := { s with dataTimer := v }
/-- `s` with its descriptors replaced. -/
def State.setDescriptors (v : List Descriptor) (s : State) : State := { s with descriptors := v }
/-- `s` with its lanes replaced. -/
def State.setLanes (v : List Lane) (s : State) : State := { s with lanes := v }
/-- `s` with its receiver replaced. -/
def State.setReceiver (v : Receiver) (s : State) : State := { s with receiver := v }
/-- `s` with its outbound replaced. -/
def State.setOutbound (v : List Frame) (s : State) : State := { s with outbound := v }
/-- `s` with its line replaced. -/
def State.setLine (v : List Byte) (s : State) : State := { s with line := v }
/-- `s` with its port replaced. -/
def State.setPort (v : List PortAction) (s : State) : State := { s with port := v }
/-- `s` with its held replaced. -/
def State.setHeld (v : Bool) (s : State) : State := { s with held := v }
/-- `s` with its pending replaced. -/
def State.setPending (v : List Instr) (s : State) : State := { s with pending := v }

end Sys2Proof.Machine
end

