-- ==== Sys2Proof/Machine/Operands.lean ====
section
/-! DEFINITION. The operands of orders and records: the class bit, parameter fields, the extent entry and
the descriptor as 8 and 12 bytes (R166, R170, R172). -/

namespace Sys2Proof.Machine

/-- The class of an order: the lowest bit of the class byte (R166). -/
def classOf (b : Byte) : OrderClass := if b.getLsbD 0 then .service else .ordinary

/-- An order kind of the catalogue (R170). -/
def Kind.fetch : Byte := 0x01#8
def Kind.place : Byte := 0x02#8
def Kind.blank : Byte := 0x03#8
def Kind.unload : Byte := 0x10#8
def Kind.startLane : Byte := 0x11#8
def Kind.stopLane : Byte := 0x12#8
def Kind.loadExtents : Byte := 0x20#8
def Kind.showExtents : Byte := 0x21#8
def Kind.markAll : Byte := 0x22#8
def Kind.storeExtents : Byte := 0x23#8
def Kind.flushList : Byte := 0x30#8
def Kind.showList : Byte := 0x31#8
def Kind.loadDescriptors : Byte := 0x40#8
def Kind.showDescriptors : Byte := 0x41#8
def Kind.showFault : Byte := 0x50#8
def Kind.clearFault : Byte := 0x51#8
def Kind.setProfile : Byte := 0x60#8
def Kind.showState : Byte := 0x61#8
def Kind.restart : Byte := 0x62#8

/-- The order kinds of the catalogue (R170). -/
def catalogue : List Byte :=
  [Kind.fetch, Kind.place, Kind.blank, Kind.unload, Kind.startLane, Kind.stopLane, Kind.loadExtents,
   Kind.showExtents, Kind.markAll, Kind.storeExtents, Kind.flushList, Kind.showList,
   Kind.loadDescriptors, Kind.showDescriptors, Kind.showFault, Kind.clearFault, Kind.setProfile,
   Kind.showState, Kind.restart]

/-- The bit `b` as a number. -/
def bit (b : Bool) : Nat := if b then 1 else 0

/-- The number whose bit k is the k-th of `bs`. -/
def bits : List Bool → Nat
  | [] => 0
  | b :: bs => bit b + 2 * bits bs

/-- An extent entry from its 8 bytes; bits that hold no field are ignored (R172). -/
def extentOfBytes (bs : List Byte) : Extent :=
  let attributes := bs.getD 5 0
  let flags := bs.getD 6 0
  { v := (bs.getD 0 0).getLsbD 0
    base := BitVec.ofNat 13 (field bs 1 2)
    limit := BitVec.ofNat 10 (field bs 3 2)
    ro := attributes.getLsbD 0
    sv := attributes.getLsbD 1
    si := attributes.getLsbD 2
    oi := attributes.getLsbD 3
    ds := attributes.getLsbD 4
    wa := attributes.getLsbD 5
    rf := flags.getLsbD 0
    ch := flags.getLsbD 1 }

/-- The 8 bytes of an extent entry; bits that hold no field are 0 (R172). -/
def extentToBytes (e : Extent) : List Byte :=
  toBytes 1 (bit e.v) ++ toBytes 2 e.base.toNat ++ toBytes 2 e.limit.toNat ++
    toBytes 1 (bits [e.ro, e.sv, e.si, e.oi, e.ds, e.wa]) ++ toBytes 1 (bits [e.rf, e.ch]) ++
    toBytes 1 0

/-- The mode byte of a descriptor: 1, 2, 3 are RUN, BAND, RING and any other value NONE (R170). -/
def modeOfByte (b : Byte) : PatternMode :=
  if b = 1#8 then .run else if b = 2#8 then .band else if b = 3#8 then .ring else .none

/-- The mode byte a mode is reported with (R172). -/
def modeToByte : PatternMode → Nat
  | .none => 0
  | .run => 1
  | .band => 2
  | .ring => 3

/-- A descriptor from its 12 bytes (R170). -/
def descriptorOfBytes (bs : List Byte) : Descriptor :=
  { mode := modeOfByte (bs.getD 0 0)
    extent := bs.getD 1 0
    start := BitVec.ofNat 16 (field bs 2 2)
    band := BitVec.ofNat 16 (field bs 4 2)
    stride := BitVec.ofNat 16 (field bs 6 2)
    count := BitVec.ofNat 16 (field bs 8 2)
    link := bs.getD 10 0
    notify := bs.getD 11 0 }

/-- The 12 bytes of a descriptor (R170, R172). -/
def descriptorToBytes (d : Descriptor) : List Byte :=
  toBytes 1 (modeToByte d.mode) ++ toBytes 1 d.extent.toNat ++ toBytes 2 d.start.toNat ++
    toBytes 2 d.band.toNat ++ toBytes 2 d.stride.toNat ++ toBytes 2 d.count.toNat ++
    toBytes 1 d.link.toNat ++ toBytes 1 d.notify.toNat

/-- The link of a descriptor: `some` of 0 to 31, or `none` for the values above (R133). -/
def Descriptor.next (d : Descriptor) : Option Nat :=
  if d.link.toNat < Config.descriptors then some d.link.toNat else none

/-- The parameter lengths that an order kind may have (R170): `need` of the parameters' own count byte for
the two loading orders. An order of either loading kind with fewer than two parameter bytes fails (R166). -/
def loadLengthOk (entry : Nat) (params : List Byte) : Bool :=
  decide (2 ≤ params.length) &&
    decide (params.length = 2 + entry * (params.getD 1 0).toNat)

/-- The parameters of FETCH, PLACE and BLANK as their bytes: extent, first offset, count (R170). -/
def accessParams (extent first count : Nat) : List Byte :=
  toBytes 1 extent ++ toBytes 2 first ++ toBytes 2 count

/-- The action the low two bits of a SET PROFILE byte select: 0 and 3 leave the field, 1 and 2 set it to
the first and second value (R174). -/
def select {α : Type} (b : Byte) (one two old : α) : α :=
  match b.getLsbD 1, b.getLsbD 0 with
  | false, true => one
  | true, false => two
  | _, _ => old

end Sys2Proof.Machine
end

