-- ==== Sys2Proof/Decode.lean ====
section
/-! DEFINITION. From the content of a link frame to the command it spells, and back (R165, R166, R170, R172).
spec/opcode_table.json gives no row any bits, so no table word spells a command. -/

namespace Sys2Proof

/-- The command that a word spells by the bits of spec/opcode_table.json: the table gives bits to none of its
rows. -/
def decodeTableWord (_nbits _w : Nat) : Option Instr := none

namespace Machine

/-- The order an order frame carries, by its kind (R166, R170). -/
def orderOf (kind cls tag : Byte) (params : List Byte) : Instr :=
  if kind = Kind.fetch then .fetch cls tag params
  else if kind = Kind.place then .place cls tag params
  else if kind = Kind.blank then .blank cls tag params
  else if kind = Kind.unload then .unload cls tag params
  else if kind = Kind.startLane then .startLane cls tag params
  else if kind = Kind.stopLane then .stopLane cls tag params
  else if kind = Kind.loadExtents then .loadExtents cls tag params
  else if kind = Kind.showExtents then .showExtents cls tag params
  else if kind = Kind.markAll then .markAll cls tag params
  else if kind = Kind.storeExtents then .storeExtents cls tag params
  else if kind = Kind.flushList then .flushList cls tag params
  else if kind = Kind.showList then .showList cls tag params
  else if kind = Kind.loadDescriptors then .loadDescriptors cls tag params
  else if kind = Kind.showDescriptors then .showDescriptors cls tag params
  else if kind = Kind.showFault then .showFault cls tag params
  else if kind = Kind.clearFault then .clearFault cls tag params
  else if kind = Kind.setProfile then .setProfile cls tag params
  else if kind = Kind.showState then .showState cls tag params
  else if kind = Kind.restart then .restart cls tag params
  else .unknownOrder kind cls tag params

/-- The route of a data frame: route kind 00h a tag, 01h a lane, any other value none (R165, R172). -/
def routeOf (kind number : Byte) : Option Route :=
  if kind = 0x00#8 then some (.tag number)
  else if kind = 0x01#8 then some (.lane number.toNat)
  else none

/-- The command a frame's content is passed on as, `none` when the frame is discarded: an unknown frame kind,
an order shorter than its header, a data frame that is not 1029 bytes or whose route kind is neither (R165,
R166). -/
def decodeContent : List Byte → Option Instr
  | fk :: rest =>
    if fk = 0x01#8 then
      match rest with
      | kind :: cls :: tag :: params => some (orderOf kind cls tag params)
      | _ => none
    else if fk = 0x02#8 then
      match rest with
      | rk :: rn :: i1 :: i0 :: d =>
        if d.length = 1024 then
          (routeOf rk rn).map fun route => .dataFrame route (i1 ++ i0) d
        else none
      | _ => none
    else none
  | [] => none

/-- The content of an order frame (R172). -/
def orderContent (kind cls tag : Byte) (params : List Byte) : List Byte :=
  0x01#8 :: kind :: cls :: tag :: params

/-- The route bytes of a data frame (R172). -/
def routeContent : Route → List Byte
  | .tag t => [0x00#8, t]
  | .lane n => [0x01#8, BitVec.ofNat 8 n]

/-- The content of the frame that carries a command, for the commands that are whole frames (R170, R172). -/
def encodeContent : Instr → Option (List Byte)
  | .fetch c t p => some (orderContent Kind.fetch c t p)
  | .place c t p => some (orderContent Kind.place c t p)
  | .blank c t p => some (orderContent Kind.blank c t p)
  | .storeExtents c t p => some (orderContent Kind.storeExtents c t p)
  | .flushList c t p => some (orderContent Kind.flushList c t p)
  | .unload c t p => some (orderContent Kind.unload c t p)
  | .startLane c t p => some (orderContent Kind.startLane c t p)
  | .stopLane c t p => some (orderContent Kind.stopLane c t p)
  | .loadExtents c t p => some (orderContent Kind.loadExtents c t p)
  | .showExtents c t p => some (orderContent Kind.showExtents c t p)
  | .markAll c t p => some (orderContent Kind.markAll c t p)
  | .showList c t p => some (orderContent Kind.showList c t p)
  | .loadDescriptors c t p => some (orderContent Kind.loadDescriptors c t p)
  | .showDescriptors c t p => some (orderContent Kind.showDescriptors c t p)
  | .showFault c t p => some (orderContent Kind.showFault c t p)
  | .clearFault c t p => some (orderContent Kind.clearFault c t p)
  | .setProfile c t p => some (orderContent Kind.setProfile c t p)
  | .showState c t p => some (orderContent Kind.showState c t p)
  | .restart c t p => some (orderContent Kind.restart c t p)
  | .unknownOrder k c t p => some (orderContent k c t p)
  | .dataFrame route index d =>
    some (0x02#8 :: (routeContent route ++ [index.extractLsb' 8 8, index.extractLsb' 0 8] ++ d))
  | .badFrame _ | .sendBlock | .dataFrameProduced | .frameSent | .sectorIdArrival _ _ _
  | .indexArrival _ | .readDataEvent _ _ _ | .verifyCompareResult _ _ _ | .seekComplete | .biasReady
  | .insertion _ | .ejectButton | .cartridgeLost | .hardwareResetAsserted
  | .hardwareResetReleased _ _ | .seekTimeout | .biasTimeout | .holdTimeout | .spinUpTimeout
  | .dataTimeout | .indexLost | .sectorMissing | .itemTakeUp | .writeBackRequestServed | .lanePost _
  | .pendingPostPlaced | .unloadCompletion | .abort _ => none

end Machine

end Sys2Proof
end

