-- ==== Sys2Proof/Machine/Layout.lean ====
section
/-! DEFINITION. The contents of outbound frames, byte by byte (R169, R171, R172). -/

namespace Sys2Proof.Machine

/-- The value of a refusal code (R171). -/
def Code.value : Code → Nat
  | .ok => 0x00
  | .unknownOrder => 0x01
  | .badLength => 0x02
  | .cls => 0x03
  | .noMedia => 0x04
  | .unloading => 0x05
  | .tagBusy => 0x06
  | .badCount => 0x07
  | .mediaKind => 0x08
  | .writeProtected => 0x09
  | .violation => 0x0A
  | .beyondMedia => 0x0B
  | .queueFull => 0x0C
  | .inUse => 0x0D
  | .laneBusy => 0x0E
  | .badDescriptor => 0x0F

/-- The value of an outcome code (R171). -/
def ItemOutcome.value : ItemOutcome → Nat
  | .ok => 0x00
  | .readFailed => 0x01
  | .writeFailed => 0x02
  | .sectorMissing => 0x03
  | .seekFailed => 0x04
  | .alreadyWritten => 0x05
  | .eraseFailed => 0x06
  | .spindle => 0x07
  | .biasFailed => 0x08
  | .dataOrder => 0x09
  | .dataTimeout => 0x0A
  | .mediaGone => 0x0B

/-- The value of a cause of WRITE_FAILED; 00h for every other outcome (R171). -/
def WriteCause.value : WriteCause → Nat
  | .none => 0x00
  | .noSpare => 0x01
  | .listFull => 0x02
  | .chain => 0x03
  | .verify => 0x04

/-- The enumerated fields (R172). -/
def OrderClass.value : OrderClass → Nat
  | .ordinary => 0
  | .service => 1

def mediaKindValue : Option MediaKind → Nat
  | none => 0
  | some .e => 1
  | some .d => 2
  | some .w => 3

def tabValue : Option Bool → Nat
  | some false => 0
  | some true => 1
  | none => 2

def SpeedStatus.value : SpeedStatus → Nat
  | .offSpeed => 0
  | .inSpeed => 1

def DriveState.value : DriveState → Nat
  | .empty => 0
  | .spinningUp => 1
  | .mounting => 2
  | .ready => 3
  | .unloading => 4
  | .faulted => 5

def MountFault.value : MountFault → Nat
  | .spin => 1
  | .format => 2
  | .list => 3

def mountFaultValue : Option MountFault → Nat
  | none => 0
  | some f => f.value

def Bias.value : Bias → Nat
  | .unset => 0
  | .erase => 1
  | .write => 2
  | .switching => 3

def ItemKind.value : ItemKind → Nat
  | .fetch => 1
  | .place => 2
  | .blank => 3
  | .store => 4
  | .flush => 5

def ItemState.value : ItemState → Nat
  | .waiting => 0
  | .inService => 1
  | .delivering => 2

def LaneState.value : LaneState → Nat
  | .idle => 0
  | .active => 1
  | .draining => 2
  | .halted => 3

def AccessKind.value : AccessKind → Nat
  | .fetch => 1
  | .place => 2
  | .blank => 3
  | .startLane => 4
  | .lanePost => 5

def FaultState.value : FaultState → Nat
  | .empty => 0
  | .held => 1
  | .heldOverrun => 2

def ExtentSource.value : ExtentSource → Nat
  | .link => 1
  | .cartridge => 2

def ListUpdate.value : ListUpdate → Nat
  | .immediate => 1
  | .deferred => 2

def verifyValue (on : Bool) : Nat := if on then 1 else 2

def FaultMark.value : FaultMark → Nat
  | .first => 0
  | .overrun => 1
  | .second => 2

/-- A period, FFFFh when unknown (R172). -/
def periodValue : Option Nat → Nat
  | none => 0xFFFF
  | some p => p

/-- The cause set byte (R172). -/
def CauseSet.value (c : CauseSet) : Nat :=
  bits [c.absent, c.range, c.roWrite, c.serviceOnly, c.laneInhibit, c.orderInhibit]

/-- The reporting cause set byte of an edge event: EDGE in bit 6 (R172). -/
def edgeValue : Nat := 64

/-- The record flags: the causes, EDGE in bit 6, SECOND_EDGE in bit 8 and OVERRUN in bit 9 (R172). -/
def FaultRecord.flags (r : FaultRecord) : Nat :=
  r.causes.value + 64 * bit r.edge + 256 * bit r.secondEdge + 512 * bit r.overrun

/-- The state of the fault record (R45). -/
def FaultRecord.state (r : FaultRecord) : FaultState :=
  match r.captured with
  | none => .empty
  | some _ => if r.overrun then .heldOverrun else .held

/-- A route: route kind and number (R172). -/
def routeBytes : Route → List Byte
  | .tag t => [0x00#8, t]
  | .lane n => 0x01#8 :: toBytes 1 n

/-- A halt cause: class, value and cause (R172). -/
def haltBytes : Option HaltCause → List Byte
  | some (.causes c) => toBytes 1 0x00 ++ toBytes 1 c.value ++ toBytes 1 0
  | some (.outcome o c) => toBytes 1 0x01 ++ toBytes 1 o.value ++ toBytes 1 c.value
  | some .beyondMedia => toBytes 1 0x02 ++ toBytes 2 0
  | some .badDescriptor => toBytes 1 0x03 ++ toBytes 2 0
  | some .unload => toBytes 1 0x04 ++ toBytes 2 0
  | some .overrun => toBytes 1 0x05 ++ toBytes 2 0
  | none => toBytes 1 0xFF ++ toBytes 2 0

/-- A captured access in an ANSWER or a notice: extent, offset, route, kind, class; all 0 in EMPTY (R172,
R44). -/
def capturedBytes : Option Captured → List Byte
  | none => List.replicate 8 0
  | some a =>
    toBytes 1 a.extent ++ toBytes 3 a.offset ++ routeBytes a.route ++ toBytes 1 a.kind.value ++
      toBytes 1 a.cls.value

def profileBytes (p : Profile) : List Byte :=
  toBytes 1 p.extentSource.value ++ toBytes 1 (verifyValue p.verify) ++ toBytes 1 p.listUpdate.value

/-- The 19 bytes of a lane in SHOW STATE (R172). -/
def laneBytes (v : LaneView) : List Byte :=
  toBytes 1 v.lane.state.value ++ toBytes 1 v.lane.descriptor ++ toBytes 4 v.lane.offset ++
    toBytes 2 v.lane.remaining ++ toBytes 2 v.lane.nextIndex ++ toBytes 3 v.lane.completed ++
    toBytes 1 v.queued ++ toBytes 1 (bit v.lane.pendingPost.isSome) ++ toBytes 1 v.lane.cls.value ++
    haltBytes v.lane.halt

/-- The SHOW STATE body (R172). -/
def snapshotBytes (s : Snapshot) : List Byte :=
  toBytes 1 s.drive.value ++ toBytes 1 (mountFaultValue s.mountFault) ++
    toBytes 1 (mediaKindValue s.kind) ++ toBytes 1 (tabValue s.tab) ++ toBytes 3 s.users ++
    toBytes 2 s.spares ++ toBytes 1 s.speed.value ++ toBytes 2 (periodValue s.period) ++
    toBytes 1 s.bias.value ++ toBytes 1 s.free ++ profileBytes s.profile ++
    toBytes 1 s.fault.value ++ toBytes 1 (bit s.loaded) ++ toBytes 1 (bit s.dirty) ++
    toBytes 2 s.listCount ++ s.lanes.flatMap laneBytes ++ toBytes 1 s.items.length ++
    s.items.flatMap (fun i => routeBytes i.1 ++ toBytes 1 i.2.1.value ++ toBytes 1 i.2.2.value)

/-- The body of an ANSWER (R169, R172). -/
def bodyBytes : Body → List Byte
  | .none => []
  | .causes c => toBytes 1 c.value
  | .count n => toBytes 1 n
  | .extents f k es => toBytes 1 f ++ toBytes 1 k ++ es.flatMap extentToBytes
  | .list count next spares users dirty es =>
    toBytes 1 es.length ++ toBytes 2 count ++ toBytes 2 next ++ toBytes 2 spares ++
      toBytes 3 users ++ toBytes 1 (bit dirty) ++
      es.flatMap (fun e => toBytes 3 e.source ++ toBytes 2 e.spare)
  | .descriptors g k ds => toBytes 1 g ++ toBytes 1 k ++ ds.flatMap descriptorToBytes
  | .fault r => toBytes 1 r.state.value ++ toBytes 2 r.flags ++ capturedBytes r.captured
  | .stopped lane descriptor completed =>
    toBytes 1 lane ++ toBytes 1 descriptor ++ toBytes 3 completed
  | .profile p => profileBytes p
  | .state s => snapshotBytes s

/-- A notice's kind and body (R172). -/
def noticeBytes : Notice → List Byte
  | .fault mark r c a =>
    toBytes 1 0x01 ++ toBytes 1 mark.value ++ toBytes 2 r.flags ++ toBytes 1 c.value ++
      capturedBytes (some a)
  | .nearFull mark r a =>
    toBytes 1 0x02 ++ toBytes 1 mark.value ++ toBytes 2 r.flags ++ toBytes 1 edgeValue ++
      capturedBytes (some a)
  | .stray route index => toBytes 1 0x03 ++ routeBytes route ++ toBytes 2 index
  | .laneDone lane descriptor completed =>
    toBytes 1 0x04 ++ toBytes 1 lane ++ toBytes 1 descriptor ++ toBytes 3 completed
  | .laneHalted lane descriptor cause completed =>
    toBytes 1 0x05 ++ toBytes 1 lane ++ toBytes 1 descriptor ++ haltBytes (some cause) ++
      toBytes 3 completed
  | .listWriteFailed count next o c =>
    toBytes 1 0x06 ++ toBytes 2 count ++ toBytes 2 next ++ toBytes 1 o.value ++ toBytes 1 c.value
  | .listLost atLoss count next =>
    toBytes 1 0x07 ++ toBytes 1 (bit atLoss) ++ toBytes 2 count ++ toBytes 2 next
  | .mediaReady kind tab users spares count next speed =>
    toBytes 1 0x08 ++ toBytes 1 (mediaKindValue (some kind)) ++ toBytes 1 (tabValue tab) ++
      toBytes 3 users ++ toBytes 2 spares ++ toBytes 2 count ++ toBytes 2 next ++
      toBytes 1 speed.value
  | .mountFailed cause => toBytes 1 0x09 ++ toBytes 1 cause.value
  | .mediaGone atLoss => toBytes 1 0x0A ++ toBytes 1 (bit atLoss)
  | .speedLost period => toBytes 1 0x0B ++ toBytes 2 (periodValue period)
  | .speedBack period => toBytes 1 0x0C ++ toBytes 2 period
  | .tableMissing => toBytes 1 0x0D

/-- The content of an outbound frame (R169, R172). -/
def Frame.content : Frame → List Byte
  | .answer kind tag code body =>
    [0x81#8, kind, tag] ++ toBytes 1 code.value ++ bodyBytes body
  | .done tag o c blocksDone corrected replacements =>
    [0x82#8, tag] ++ toBytes 1 o.value ++ toBytes 1 c.value ++ toBytes 2 blocksDone ++
      toBytes 2 corrected ++ toBytes 2 replacements
  | .credit route count => 0x83#8 :: (routeBytes route ++ toBytes 1 count)
  | .notice n => 0x84#8 :: noticeBytes n
  | .data tag index block => [0x02#8] ++ routeBytes (.tag tag) ++ toBytes 2 index ++ block

end Sys2Proof.Machine
end

