-- ==== Sys2Proof/Machine/Flags.lean ====
section
/-! DEFINITION. The check of an access against an extent entry: legal range, protection causes, the edge
granule, the first offending offset and the test against U (R18, R25 to R29, R40, R41, R44). -/

namespace Sys2Proof.Machine

/-- The lowest legal offset of an entry (R18). -/
def Extent.low (e : Extent) : Nat :=
  if e.ds then Config.granule * (Config.topLimit - e.limit.toNat) else 0

/-- The highest legal offset of an entry (R18). -/
def Extent.high (e : Extent) : Nat :=
  if e.ds then Config.topOffset else Config.granule * e.limit.toNat + (Config.granule - 1)

/-- The user-area PSA of a legal offset: 64B + (o − low) (R18, R21). -/
def Extent.psa (e : Extent) (offset : Nat) : Nat :=
  Config.granule * e.base.toNat + (offset - e.low)

/-- The write kinds of access (R39). -/
def AccessKind.writes : AccessKind → Bool
  | .fetch => false
  | .place => true
  | .blank => true
  | .startLane => true
  | .lanePost => true

/-- The accesses that are orders (R40: ORDER_INHIBIT). -/
def AccessKind.isOrder : AccessKind → Bool
  | .fetch => true
  | .place => true
  | .blank => true
  | .startLane => false
  | .lanePost => false

/-- A cause set holds some cause (R41). -/
def CauseSet.any (c : CauseSet) : Bool :=
  c.absent || c.range || c.roWrite || c.serviceOnly || c.laneInhibit || c.orderInhibit

/-- The cause set {ABSENT} (R41). -/
def CauseSet.onlyAbsent : CauseSet := ⟨true, false, false, false, false, false⟩

/-- The cause set {RANGE} (R44). -/
def CauseSet.onlyRange : CauseSet := ⟨false, true, false, false, false, false⟩

/-- The cause set of an access to an entry: every cause that applies, ABSENT alone when V = 0 (R25, R26,
R40, R41). -/
def causesOf (e : Extent) (a : Access) : CauseSet :=
  if e.v then
    { absent := false
      range := decide (a.first < e.low) || decide (e.high < a.last)
      roWrite := a.kind.writes && e.ro
      serviceOnly := decide (a.cls = .ordinary) && e.sv
      laneInhibit := !a.kind.isOrder && e.si
      orderInhibit := a.kind.isOrder && e.oi }
  else CauseSet.onlyAbsent

/-- Whether a clean access touches the edge granule: PLACE and BLANK orders and lane posts, extents with
WA = 1 (R28, R29). -/
def touchesEdge (e : Extent) (a : Access) : Bool :=
  e.wa && a.kind.writes && decide (a.kind ≠ .startLane) &&
    (if e.ds then decide (a.first ≤ e.low + (Config.granule - 1))
     else decide (Config.granule * e.limit.toNat ≤ a.last))

/-- Whether the last block of a clean access lies at U or beyond (R27). The test exists only while the
facts of a side are held. -/
def beyondUsers (facts : Option Facts) (e : Extent) (a : Access) : Bool :=
  match facts with
  | none => false
  | some f => decide (f.users ≤ e.psa a.last)

/-- The first offending offset of a violation (R44). -/
def offendingOffset (e : Extent) (a : Access) (c : CauseSet) : Nat :=
  if c = CauseSet.onlyRange then
    (if a.first < e.low ∨ e.high < a.first then a.first else e.high + 1)
  else a.first

/-- The captured offset of an edge event (R44). -/
def edgeOffset (e : Extent) (a : Access) : Nat :=
  if e.ds then a.first else max a.first (Config.granule * e.limit.toNat)

/-- The captured or reporting form of an access (R44, R51). -/
def Access.captured (a : Access) (offset : Nat) : Captured :=
  { extent := a.extent, offset := offset, route := a.route, kind := a.kind, cls := a.cls }

/-- The entry an access names; a number of 48 or above is checked as an entry with V = 0 (R25). -/
def State.entry (s : State) (n : Nat) : Extent :=
  if n < Config.extentEntries then s.extents.getD n Extent.blank else Extent.blank

/-- The cause set of an access against the table as it stands (R25). -/
def State.causes (s : State) (a : Access) : CauseSet := causesOf (s.entry a.extent) a

end Sys2Proof.Machine
end

