-- ==== Sys2Proof/Machine/Resolve.lean ====
section
/-! DEFINITION. From an item's block to a place on the medium (R4, R21 to R24), the replacement list's lookup
and allocation (R60 to R62). -/

namespace Sys2Proof.Machine

/-- The sectors of a zone. -/
def Zone.sectors (z : Zone) : Nat := z.tracks * z.spt

/-- T, the number of PSAs of a zone table (R4). -/
def zonesTotal (zs : List Zone) : Nat := (zs.map Zone.sectors).sum

/-- The answer of the zone calculation: zone number, track and sector (R23). -/
structure Location where
  zone : Nat
  track : Nat
  sector : Nat
  deriving DecidableEq, Repr

/-- The answer to a resolution request (R24): zone, track and sector, with q of R22 and whether the block's own
PSA is a listed source. -/
structure Place extends Location where
  q : Nat
  listed : Bool
  deriving DecidableEq, Repr

/-- Zone, track and sector of PSA `q`, walking the zones from zone number `zone`, which starts at PSA `start`
(R23). -/
def locateFrom (zone start q : Nat) : List Zone → Option Location
  | [] => none
  | z :: zs =>
    if start ≤ q ∧ q < start + z.sectors then
      some { zone := zone, track := z.first + (q - start) / z.spt, sector := (q - start) % z.spt }
    else locateFrom (zone + 1) (start + z.sectors) q zs

/-- The fourth step of resolution: zone, track and sector of PSA `q` in the zone table of the side (R23). -/
def locate (zs : List Zone) (q : Nat) : Option Location := locateFrom 0 0 q zs

/-- The spare index of a listed source (R60). -/
def lookupEntry : List ListEntry → Nat → Option Nat
  | [], _ => none
  | e :: es, p => if e.source = p then some e.spare else lookupEntry es p

/-- The third and fourth steps of resolution: lookup and zone calculation (R22, R23). -/
def placeOf (f : Facts) (entries : List ListEntry) (p : Nat) : Option Place :=
  let found := lookupEntry entries p
  let q := match found with
    | some spare => f.users + spare
    | none => p
  (locate f.zones q).map fun l => { toLocation := l, q := q, listed := found.isSome }

/-- The user-area PSA of block `i` of an item (R21, R77); `none` for items that name no extent. -/
def State.itemPsa (s : State) (it : WorkItem) (i : Nat) : Option Nat :=
  match it.extent, it.first with
  | some e, some o => some ((s.entry e).psa (o + i))
  | _, _ => none

/-- The location of block `i` of an item with the list as it stands (R24). While the facts are absent no
address is resolved (R16). -/
def State.itemPlace (s : State) (it : WorkItem) (i : Nat) : Option Place :=
  match s.drive.facts, s.itemPsa it i with
  | some f, some p => placeOf f s.list.entries p
  | _, _ => none

/-- A new entry at its place in the ascending order of sources (R62). -/
def insertEntry (e : ListEntry) : List ListEntry → List ListEntry
  | [] => [e]
  | x :: xs => if e.source < x.source then e :: x :: xs else x :: insertEntry e xs

/-- The answer of an allocation call: the list after it, or the cause of its failure (R61, R62). -/
inductive Allocation where
  | spare (l : ReplacementList)
  | failed (c : WriteCause)
  deriving DecidableEq, Repr

/-- An allocation for the failing block with user-area PSA `p` on a side with `spares` spares (R61, R62). With the
list full and the pool spent an unlisted block gets LIST_FULL, as R62's tests and table give it; R58 says that every
allocation then fails NO_SPARE (DEDUCED, log entry 33). -/
def allocate (spares p : Nat) (l : ReplacementList) : Allocation :=
  match lookupEntry l.entries p with
  | some _ =>
    if l.next = spares then .failed .noSpare
    else .spare { l with
      entries := l.entries.map (fun e => if e.source = p then ⟨p, l.next⟩ else e)
      next := l.next + 1, dirty := true }
  | none =>
    if l.entries.length = Config.listEntries then .failed .listFull
    else if l.next = spares then .failed .noSpare
    else .spare { l with
      entries := insertEntry ⟨p, l.next⟩ l.entries, next := l.next + 1, dirty := true }

end Sys2Proof.Machine
end

