-- ==== Sys2Proof/Machine/Records.lean ====
section
/-! DEFINITION. The three cartridge records: reading and validating them, and composing the two that the part
writes (R6 to R11, R67, R35). -/

namespace Sys2Proof.Machine

/-- The media kind byte of a format record (R7). -/
def kindOfByte (b : Nat) : Option MediaKind :=
  if b = 1 then some .e else if b = 2 then some .d else if b = 3 then some .w else none

/-- The zone list entries of a format record: 5 bytes each from byte 6 (R7). -/
def zonesOfBytes (count : Nat) (bs : Block) : List Zone :=
  (chunks 5 count (bs.drop 6)).map fun z => ⟨field z 0 2, field z 2 2, field z 4 1⟩

/-- Test 6 of R8 beyond zone 0: the zones lie back to back. -/
def zonesTile : List Zone → Bool
  | z :: y :: rest => decide (y.first = z.first + z.tracks) && zonesTile (y :: rest)
  | _ => true

/-- The facts of a format record that passes the nine tests of R8, or `none` when it fails. The fields lie at
the byte offsets that R7's widths give: identity 0, kind 2, size 3, zone count 5, zones 6, U 86, S 89, check
value 91. -/
def readFormat (bs : Block) : Option Facts :=
  let zoneCount := field bs 5 1
  let zones := zonesOfBytes zoneCount bs
  let users := field bs 86 3
  let spares := field bs 89 2
  match kindOfByte (field bs 2 1) with
  | none => none
  | some kind =>
    if field bs 91 2 = (crc16 (bs.take 91)).toNat ∧ field bs 0 2 = Config.formatIdentity ∧
        field bs 3 2 = 1024 ∧ 1 ≤ zoneCount ∧ zoneCount ≤ 16 ∧
        (zones.head?.map Zone.first) = some 4 ∧ zonesTile zones = true ∧
        (∀ z ∈ zones, z.tracks ≠ 0 ∧ 17 ≤ z.spt ∧ z.spt ≤ 40) ∧
        users + spares = zonesTotal zones ∧ users ≤ Config.maxUsers ∧ spares ≤ Config.maxSpares then
      some ⟨kind, zones, zonesTotal zones, users, spares⟩
    else none

/-- Entry sectors that a list of `c` entries occupies: ⌈c/128⌉ (R9). -/
def entrySectors (c : Nat) : Nat := (c + Config.entriesPerSector - 1) / Config.entriesPerSector

/-- The entry count of a list header, when its identity word and count let the entries be read (R115). -/
def headerCount (header : Block) : Option Nat :=
  if field header 0 2 = Config.listIdentity ∧ field header 2 2 ≤ Config.listEntries then
    some (field header 2 2)
  else none

/-- The data of sector `n` among the sectors a control read delivered. -/
def sectorData (n : Nat) : List (Nat × Block) → Block
  | [] => zeroBlock
  | (m, b) :: rest => if m = n then b else sectorData n rest

/-- The bytes of the entries of a list image with `c` entries (R9). -/
def entryBytes (c : Nat) (sectors : List (Nat × Block)) : List Byte :=
  ((List.range (entrySectors c)).flatMap
    (fun k => (sectorData (k + 1) sectors).take 1024)).take (8 * c)

/-- The entries of a list image (R9): source PSA and spare index, 4 bytes each. -/
def entriesOfBytes (c : Nat) (bs : List Byte) : List ListEntry :=
  (chunks 8 c bs).map fun e => ⟨field e 0 4, field e 4 4⟩

/-- Strictly ascending sources (R10 test 5, R57). -/
def sourcesAscend : List ListEntry → Bool
  | a :: b :: rest => decide (a.source < b.source) && sourcesAscend (b :: rest)
  | _ => true

/-- The list of an image that passes the eight tests of R10 against U and S, or `none`. -/
def readList (f : Facts) (sectors : List (Nat × Block)) : Option ReplacementList :=
  let header := sectorData 0 sectors
  match headerCount header with
  | none => none
  | some c =>
    let next := field header 4 2
    let bytes := entryBytes c sectors
    let entries := entriesOfBytes c bytes
    if field header 6 2 = (crc16 (header.take 6 ++ bytes)).toNat ∧ next ≤ f.spares ∧
        sourcesAscend entries = true ∧ (∀ e ∈ entries, e.source < f.users) ∧
        (entries.map ListEntry.spare).Nodup ∧ (∀ e ∈ entries, e.spare < next) then
      some { loaded := true, entries := entries, next := next, dirty := false, request := false }
    else none

/-- The table of an extent table image that passes the tests of R11, or `none`. -/
def readExtents (bs : Block) : Option (List Extent) :=
  if field bs 386 2 = (crc16 (bs.take 386)).toNat ∧ field bs 0 2 = Config.extentIdentity then
    some ((chunks 8 Config.extentEntries (bs.drop 2)).map extentOfBytes)
  else none

/-- The extent table image as its one sector (R11, R35). -/
def extentImage (es : List Extent) : List Block :=
  let body := toBytes 2 Config.extentIdentity ++ es.flatMap extentToBytes
  [padTo 1024 (body ++ toBytes 2 (crc16 body).toNat)]

/-- The entry sectors of a list image (R9). -/
def entryImage (n : Nat) (bytes : List Byte) : List Block :=
  (chunks 1024 n bytes).map (padTo 1024)

/-- The replacement list image: header and ⌈c/128⌉ entry sectors (R9, R67). -/
def listImage (l : ReplacementList) : List Block :=
  let head := toBytes 2 Config.listIdentity ++ toBytes 2 l.entries.length ++ toBytes 2 l.next
  let entries := l.entries.flatMap fun e => toBytes 4 e.source ++ toBytes 4 e.spare
  padTo 1024 (head ++ toBytes 2 (crc16 (head ++ entries)).toNat) ::
    entryImage (entrySectors l.entries.length) entries

/-- A format record's sector as the side carries it (R7): used by tests and statements. -/
def formatImage (kind : Nat) (zones : List Zone) (users spares : Nat) : Block :=
  let body := toBytes 2 Config.formatIdentity ++ toBytes 1 kind ++ toBytes 2 1024 ++
    toBytes 1 zones.length ++
    padTo 80 (zones.flatMap fun z => toBytes 2 z.first ++ toBytes 2 z.tracks ++ toBytes 1 z.spt) ++
    toBytes 3 users ++ toBytes 2 spares
  padTo 1024 (body ++ toBytes 2 (crc16 body).toNat)

end Sys2Proof.Machine
end

