-- ==== Sys2Proof/Machine/Ops.lean ====
section
/-! DEFINITION. The shared operations on the state: reports, slots and the walk, the queue, lanes and their
halts, the fault record (chapters 3, 5, 7 and 8). -/

namespace Sys2Proof.Machine

/-! ### Outputs -/

/-- A frame is produced: it joins the outbound sequence (R168). -/
def State.produce (f : Frame) (s : State) : State := s.setOutbound (s.outbound ++ [f])

/-- Frames produced one after another. -/
def State.produceAll (fs : List Frame) (s : State) : State := s.setOutbound (s.outbound ++ fs)

/-- A notice is sent. -/
def State.notify (n : Notice) (s : State) : State := s.produce (.notice n)

/-- A final report ANSWER. -/
def State.answer (kind tag : Byte) (code : Code) (body : Body) (s : State) : State :=
  s.produce (.answer kind tag code body)

/-- A refusal ANSWER without a body (R169). -/
def State.refuse (kind tag : Byte) (code : Code) (s : State) : State := s.answer kind tag code .none

/-- An action commanded at the mechanism port. -/
def State.act (a : PortAction) (s : State) : State := s.setPort (s.port ++ [a])

/-! ### Drive facts -/

/-- The side is write-protected (R15). -/
def State.protectedTab (s : State) : Bool := decide (s.drive.tab = some true)

/-- Why an order that needs READY is refused, if it is (R79 step 2). -/
def driveRefusal : DriveState → Option Code
  | .ready => none
  | .unloading => some .unloading
  | .empty => some .noMedia
  | .spinningUp => some .noMedia
  | .mounting => some .noMedia
  | .faulted => some .noMedia

/-! ### Slots -/

/-- The number of FREE slots. -/
def freeCount (sl : List Slot) : Nat := (sl.filter (fun x => decide (x.state = .free))).length

/-- The slots held by items other than the front item (R121). -/
def heldBehind (frontId : Nat) (sl : List Slot) : Nat :=
  (sl.filter (fun x => decide (x.state ≠ .free ∧ x.holder ≠ some frontId))).length

/-- The slot serves block `k` of the item `id`. -/
def Slot.serves (x : Slot) (id k : Nat) : Bool :=
  decide (x.state ≠ .free ∧ x.holder = some id ∧ x.block = k)

/-- The state of the slot that serves block `k` of the item `id`; FREE when none does. -/
def slotState (id k : Nat) : List Slot → SlotState
  | [] => .free
  | x :: xs => if x.serves id k then x.state else slotState id k xs

/-- The data of the slot that serves block `k` of the item `id`. -/
def slotData (id k : Nat) : List Slot → Block
  | [] => zeroBlock
  | x :: xs => if x.serves id k then x.data else slotData id k xs

/-- A slot made FREE: no holder; its data has no meaning and is left (R119). -/
def Slot.release (x : Slot) : Slot := { x with state := .free, holder := none, block := 0, frameIndex := 0 }

/-- The slot of block `k` of the item `id` moves to `st`. -/
def moveSlot (id k : Nat) (st : SlotState) (sl : List Slot) : List Slot :=
  sl.map fun x => if x.serves id k then { x with state := st } else x

/-- The slot of block `k` of the item `id` takes `d` and moves to `st` (R124, R129). -/
def fillSlot (id k : Nat) (st : SlotState) (d : Block) (sl : List Slot) : List Slot :=
  sl.map fun x => if x.serves id k then { x with state := st, data := d } else x

/-- The slot of block `k` of the item `id` is freed. -/
def freeSlot (id k : Nat) (sl : List Slot) : List Slot :=
  sl.map fun x => if x.serves id k then x.release else x

/-- The slot is held by one of the items `ids`. -/
def Slot.heldBy (ids : List Nat) (x : Slot) : Bool :=
  match x.holder with
  | none => false
  | some h => ids.contains h

/-- Every slot the items `ids` hold is freed, whatever its state (R130). -/
def freeItemSlots (ids : List Nat) (sl : List Slot) : List Slot :=
  sl.map fun x => if x.heldBy ids then x.release else x

/-! ### The walk (R121, R122, R123) -/

/-- The item's kind takes slots (R120). -/
def ItemKind.takesSlots : ItemKind → Bool
  | .fetch => true
  | .place => true
  | .blank => false
  | .store => false
  | .flush => false

/-- The number of slotless blocks of an item: none once it has ended (R120). -/
def WorkItem.slotless (it : WorkItem) : Nat :=
  if it.kind.takesSlots && it.ended.isNone then it.count - it.given else 0

/-- The frame index of block `k` of an item (R122). -/
def WorkItem.indexOf (it : WorkItem) (k : Nat) : Nat := (it.frameBase + k) % Config.indexModulus

/-- A FREE slot given to block `k` of an item: AWAITING for a PLACE block, READING for a FETCH block; its
data is not cleared (R119, R121). -/
def Slot.give (it : WorkItem) (k : Nat) (x : Slot) : Slot :=
  { x with
    state := if it.kind = .place then .awaiting else .reading
    holder := some it.id
    block := k
    frameIndex := if it.kind = .place then it.indexOf k else 0 }

/-- `n` FREE slots given to the blocks from `k` upward of an item, one each in ascending order. -/
def giveSlots (it : WorkItem) : Nat → Nat → List Slot → List Slot
  | _, _, [] => []
  | _, 0, sl => sl
  | k, n + 1, x :: xs =>
    if x.state = .free then x.give it k :: giveSlots it (k + 1) n xs
    else x :: giveSlots it k (n + 1) xs

/-- How many slots the walk gives an item when it reaches it (R121). -/
def walkGives (frontId : Nat) (it : WorkItem) (sl : List Slot) : Nat :=
  let room := if it.id = frontId then freeCount sl
    else min (freeCount sl) (Config.slotsBehindFront - heldBehind frontId sl)
  min it.slotless room

/-- The walk over the queue from the front to the tail: the items and slots after it, and one credit for each
PLACE item that was given slots (R121, R123). -/
def walkItems (frontId : Nat) :
    List WorkItem → List Slot → List WorkItem × List Slot × List Frame
  | [], sl => ([], sl, [])
  | it :: rest, sl =>
    let n := walkGives frontId it sl
    let sl' := giveSlots it it.given n sl
    let it' : WorkItem := { it with given := it.given + n }
    let credits := if it.kind = .place ∧ 0 < n then [Frame.credit it.route n] else []
    if n < it.slotless then (it' :: rest, sl', credits)
    else
      let after := walkItems frontId rest sl'
      (it' :: after.1, after.2.1, credits ++ after.2.2)

/-- The walk of R121 over the whole queue, with its CREDIT reports. -/
def State.walk (s : State) : State :=
  match s.queue with
  | [] => s
  | front :: _ =>
    let w := walkItems front.id s.queue s.slots
    ((s.setQueue w.1).setSlots w.2.1).produceAll w.2.2

/-! ### The queue -/

/-- The items with the item `id` replaced by `f` of it. -/
def mapItem (id : Nat) (f : WorkItem → WorkItem) (q : List WorkItem) : List WorkItem :=
  q.map fun it => if it.id = id then f it else it

/-- The front item replaced by `f` of it. -/
def State.mapFront (f : WorkItem → WorkItem) (s : State) : State :=
  match s.queue with
  | [] => s
  | it :: rest => s.setQueue (f it :: rest)

/-- The item `id` leaves the queue and its slots are freed (R87, R130). -/
def State.removeItem (id : Nat) (s : State) : State :=
  (s.setQueue (s.queue.filter fun it => decide (it.id ≠ id))).setSlots (freeItemSlots [id] s.slots)

/-- An item of lane `n` that is WAITING (R92). -/
def WorkItem.isWaitingOf (n : Nat) (it : WorkItem) : Bool :=
  decide (it.route = .lane n ∧ it.state = .waiting)

/-- The WAITING items of lane `n` are removed without report and their slots freed (R92, R130). -/
def State.removeWaiting (n : Nat) (s : State) : State :=
  (s.setQueue (s.queue.filter fun it => !it.isWaitingOf n)).setSlots
    (freeItemSlots ((s.queue.filter (WorkItem.isWaitingOf n)).map WorkItem.id) s.slots)

/-- The tag is in use: a queued item or an outstanding stop carries it (R80). -/
def State.tagInUse (s : State) (t : Byte) : Bool :=
  s.queue.any (fun it => decide (it.route = .tag t)) || s.lanes.any (fun l => l.stops.contains t)

/-- An item joins the tail of the queue (R78); the next item handle is used up. -/
def State.addItem (it : WorkItem) (s : State) : State :=
  (s.setQueue (s.queue ++ [it])).setNextId (s.nextId + 1)

/-! ### Lanes -/

/-- Lane `n`. -/
def State.lane (s : State) (n : Nat) : Lane := s.lanes.getD n Lane.reset

/-- Lane `n` replaced. -/
def State.setLane (n : Nat) (l : Lane) (s : State) : State := s.setLanes (s.lanes.set n l)

/-- The lane's items in the queue, the one in service included (R137). -/
def State.queuedItems (s : State) (n : Nat) : Nat :=
  (s.queue.filter (fun it => decide (it.route = .lane n))).length

/-- Descriptor `n` as it stands. -/
def State.descriptorAt (s : State) (n : Nat) : Descriptor := s.descriptors.getD n Descriptor.blank

/-- The current descriptor of lane `n`. -/
def State.laneDescriptor (s : State) (n : Nat) : Descriptor := s.descriptorAt (s.lane n).descriptor

/-- A lane is ACTIVE or DRAINING. -/
def LaneState.runs : LaneState → Bool
  | .idle => false
  | .active => true
  | .draining => true
  | .halted => false

/-- An extent entry is referenced: by a queued item, or by the current descriptor of a lane that is ACTIVE or
DRAINING (R19). -/
def State.referenced (s : State) (e : Nat) : Bool :=
  s.queue.any (fun it => decide (it.extent = some e)) ||
    s.lanes.any (fun l => l.state.runs && decide ((s.descriptorAt l.descriptor).extent.toNat = e))

/-- A descriptor is held against loading: it is the current descriptor of a lane that is not IDLE (R135). -/
def State.descriptorHeld (s : State) (g : Nat) : Bool :=
  s.lanes.any (fun l => decide (l.state ≠ .idle ∧ l.descriptor = g))

/-- Lane `n` becomes HALTED with its pending post dropped, without notice; with `removing` its WAITING items
are removed (R148, R149). -/
def State.haltSilently (removing : Bool) (n : Nat) (cause : HaltCause) (s : State) : State :=
  let s := if removing then s.removeWaiting n else s
  s.setLane n { s.lane n with state := .halted, halt := some cause, pendingPost := none }

/-- A lane halts and sends NOTICE LANE_HALTED (R148). -/
def State.haltLane (removing : Bool) (n : Nat) (cause : HaltCause) (s : State) : State :=
  let s := s.haltSilently removing n cause
  s.notify (.laneHalted n (s.lane n).descriptor cause (s.lane n).completed)

/-- The lane numbers in ascending order. -/
def laneNumbers : List Nat := List.range Config.lanes

/-- ANSWER OK of a STOP LANE (R146). -/
def State.stopAnswer (s : State) (n : Nat) (tag : Byte) : Frame :=
  .answer Kind.stopLane tag .ok (.stopped n (s.lane n).descriptor (s.lane n).completed)

/-! ### The fault record (R46 to R50) -/

/-- The lanes halted by an overrun: every lane that is ACTIVE or DRAINING, the posting lane with its post's
cause set and every other with OVERRUN, none with a notice (R48). -/
def State.overrunLanes (poster : Option Nat) (c : CauseSet) (s : State) : State :=
  laneNumbers.foldl (fun s n =>
    if (s.lane n).state.runs then
      s.haltSilently true n (if poster = some n then .causes c else .overrun)
    else s) s

/-- A violation reaches the fault record (R46, R48, R50). `poster` is the lane whose post it is, if it is a
lane's own. -/
def State.recordViolation (poster : Option Nat) (a : Access) (c : CauseSet) (s : State) : State :=
  let access := a.captured (offendingOffset (s.entry a.extent) a c)
  match s.fault.state with
  | .empty =>
    let r : FaultRecord := ⟨c, false, false, false, some access⟩
    (s.setFault r).notify (.fault .first r c access)
  | .held =>
    let r : FaultRecord := { s.fault with overrun := true }
    ((s.setFault r).notify (.fault .overrun r c access)).overrunLanes poster c
  | .heldOverrun => s

/-- The violation would put the record into overrun (R48). -/
def State.overruns (s : State) : Bool := decide (s.fault.state = .held)

/-- An edge event reaches the fault record (R47, R49, R50). -/
def State.recordEdge (a : Access) (s : State) : State :=
  let access := a.captured (edgeOffset (s.entry a.extent) a)
  match s.fault.state with
  | .empty =>
    let r : FaultRecord := ⟨CauseSet.empty, true, false, false, some access⟩
    (s.setFault r).notify (.nearFull .first r access)
  | .held =>
    if s.fault.secondEdge then s
    else
      let r : FaultRecord := { s.fault with secondEdge := true }
      (s.setFault r).notify (.nearFull .second r access)
  | .heldOverrun => s

/-- The edge test of a clean access (R28, R41). -/
def State.edgeCheck (a : Access) (s : State) : State :=
  if touchesEdge (s.entry a.extent) a then s.recordEdge a else s

/-! ### Descriptors and footprints -/

/-- A mode with bands. -/
def PatternMode.banded : PatternMode → Bool
  | .none => false
  | .run => false
  | .band => true
  | .ring => true

/-- A descriptor is startable (R134). -/
def Descriptor.startable (d : Descriptor) : Bool :=
  decide (d.mode ≠ .none) && decide (1 ≤ d.count.toNat) &&
    (!d.mode.banded ||
      (decide (1 ≤ d.band.toNat) && decide (d.band.toNat ≤ 64) && decide (d.band.toNat ≤ d.stride.toNat) &&
        decide (d.stride.toNat ≤ 4096)))

/-- The end offset of a footprint, computed exactly (R29). -/
def Descriptor.footprintEnd (d : Descriptor) : Nat :=
  if d.mode.banded then
    d.start.toNat + (d.count.toNat - 1) * d.stride.toNat + d.band.toNat - 1
  else d.start.toNat + d.count.toNat - 1

/-- The footprint of a descriptor as a START LANE access (R29, R39, R145). -/
def Descriptor.footprint (d : Descriptor) (cls : OrderClass) (lane : Nat) : Access :=
  { kind := .startLane, cls := cls, route := .lane lane, extent := d.extent.toNat,
    first := d.start.toNat, last := d.footprintEnd }

end Sys2Proof.Machine
end

