-- ==== Sys2Proof/Machine/LaneOps.lean ====
section
/-! DEFINITION. The Lane Engine's shared operations: the result of a lane item, completing a descriptor,
following a link, and placing pending posts (R83, R84, R143 to R150). -/

namespace Sys2Proof.Machine

/-- A work item as the queue takes it in (R81, R83): the counters 0, the verify snapshot the profile's
setting, WAITING, and no block given a slot yet. -/
def State.newItem (s : State) (route : Route) (kind : ItemKind) (extent first : Option Nat)
    (count frameBase : Nat) : WorkItem :=
  { id := s.nextId, route := route, kind := kind, extent := extent, first := first, count := count,
    blocksDone := 0, corrected := 0, replacements := 0, snapshot := s.profile.verify, state := .waiting,
    given := 0, sent := 0, frameBase := frameBase, ended := none }

/-- A checked lane piece becomes a PLACE item at the tail (R83). -/
def State.addPiece (n : Nat) (p : Piece) (s : State) : State :=
  s.addItem (s.newItem (.lane n) .place (some p.extent) (some p.first) p.count p.frameBase)

/-- The lowest pending lane among `ns` with its pending post (R84). -/
def State.lowestPending (s : State) : List Nat → Option (Nat × Piece)
  | [] => none
  | n :: ns =>
    match (s.lane n).pendingPost with
    | some p => some (n, p)
    | none => s.lowestPending ns

/-- Some lane is pending (R84). -/
def State.anyPending (s : State) : Bool := (s.lowestPending laneNumbers).isSome

/-- A queue place is free (R78). -/
def State.placeFree (s : State) : Bool := decide (s.queue.length < Config.queuePlaces)

/-- One free place goes to the lowest pending lane: its post becomes an item at the tail and its mark is
cleared (R84, R83). Without a free place or a pending lane nothing happens. -/
def State.placeOnePending (s : State) : State :=
  if s.placeFree then
    match s.lowestPending laneNumbers with
    | none => s
    | some (n, p) => (s.setLane n { s.lane n with pendingPost := none }).addPiece n p
  else s

/-- The free places go to the pending lanes in ascending lane number, one place to each, until the places or
the pending lanes run out (R84). -/
def State.placeAllPending (s : State) : State :=
  laneNumbers.foldl (fun s _ => s.placeOnePending) s

/-- The lane starts on descriptor `d`, number `g`, from its beginning; the next block index, class and stops
stand (R140, R144, R145). -/
def Lane.restartOn (l : Lane) (g : Nat) (d : Descriptor) : Lane :=
  { l with descriptor := g, offset := d.start.toNat, remaining := d.count.toNat, completed := 0 }

/-- Lane `n` follows the link to descriptor `g` (R145). -/
def State.followLink (n g : Nat) (s : State) : State :=
  let d := s.descriptorAt g
  let l := s.lane n
  let failing := s.setLane n { l with descriptor := g, completed := 0 }
  let a := d.footprint l.cls n
  let c := s.causes a
  if !d.startable then failing.haltLane true n .badDescriptor
  else if c.any then
    let after := failing.recordViolation (some n) a c
    if failing.overruns then after else after.haltLane true n (.causes c)
  else if beyondUsers s.drive.facts (s.entry a.extent) a then failing.haltLane true n .beyondMedia
  else s.setLane n (l.restartOn g d)

/-- The current descriptor of lane `n` is complete (R144). -/
def State.completeDescriptor (n : Nat) (s : State) : State :=
  let d := s.laneDescriptor n
  let l := s.lane n
  let s := if d.notify = 1#8 then s.notify (.laneDone n l.descriptor l.completed) else s
  if d.mode = .ring then s.setLane n (l.restartOn l.descriptor d)
  else
    match d.next with
    | some g => s.followLink n g
    | none => s.setLane n { l with state := .idle }

/-- The outstanding stops of lane `n` are answered in arrival order and the lane is IDLE (R147). -/
def State.endDrain (n : Nat) (s : State) : State :=
  let answers := (s.lane n).stops.map (s.stopAnswer n)
  (s.setLane n { s.lane n with state := .idle, halt := none, stops := [] }).produceAll answers

/-- What the Work Queue passes to the Lane Engine at the end of a lane item (R90). No rule of the Lane Engine
reads the replacements made. -/
structure LaneItemResult where
  lane : Nat
  outcome : ItemOutcome
  cause : WriteCause
  blocksDone : Nat
  replacements : Nat
  deriving DecidableEq, Repr

/-- The result of a lane item that has left the queue (R90, R143, R147, R149, R150). `loss` is true while a
cartridge loss ends the items: the halt then removes none of them. -/
def State.laneResult (loss : Bool) (r : LaneItemResult) (s : State) : State :=
  let n := r.lane
  let s := s.setLane n { s.lane n with completed := (s.lane n).completed + r.blocksDone }
  let l := s.lane n
  match l.state with
  | .active =>
    if r.outcome = .ok then
      (if l.remaining = 0 ∧ s.queuedItems n = 0 ∧ l.pendingPost = none then s.completeDescriptor n else s)
    else s.haltLane (!loss) n (.outcome r.outcome r.cause)
  | .draining => s.endDrain n
  | .halted => if l.stops = [] then s else s.endDrain n
  | .idle => s

end Sys2Proof.Machine
end

