-- ==== Sys2Proof/Machine/Head.lean ====
section
/-! DEFINITION. The Head Sequencer: forming runs, seeks, the conditions of a pass, completing blocks, and the
ways a task ends (chapter 6), with the mount that its control reads serve (R154). -/

namespace Sys2Proof.Machine

/-- The head replaced by `f` of it. -/
def State.mapHead (f : Head → Head) (s : State) : State := s.setHead (f s.head)

/-- The drive replaced by `f` of it. -/
def State.mapDrive (f : Drive → Drive) (s : State) : State := s.setDrive (f s.drive)

/-- The list replaced by `f` of it. -/
def State.mapList (f : ReplacementList → ReplacementList) (s : State) : State := s.setList (f s.list)

/-- The head with task, run, counts, sets, image and timers cleared and IDLE; head track and bias state are
kept (R97, R113). -/
def Head.cleared (h : Head) : Head := { Head.reset with track := h.track, bias := h.bias }

/-- The head is free and IDLE again; the data timeout is stopped (R113, R127). -/
def State.clearHead (s : State) : State := (s.mapHead Head.cleared).setDataTimer none

/-! ### Runs and passes -/

/-- A target that the pass has still to act on. -/
def freshTarget (sector block : Nat) : Target := ⟨sector, block, .toAct, false, 0⟩

/-- A target prepared for the next pass. -/
def Target.fresh (t : Target) : Target := freshTarget t.sector t.block

/-- The targets of the current run; none without a run. -/
def Head.targets (h : Head) : List Target :=
  match h.run with
  | none => []
  | some r => r.targets

/-- The current run with its targets replaced. -/
def Head.setTargets (ts : List Target) (h : Head) : Head :=
  { h with run := h.run.map fun r => { r with targets := ts } }

/-- A run on the zoned area: blocks of the item or a rewrite. -/
def RunWork.zoned : RunWork → Bool
  | .blocks => true
  | .rewrite => true
  | .store => false
  | .listImage => false
  | .control => false

/-- The passes of a PLACE run by media kind, the first and those after it (R1). -/
def writePasses (kind : MediaKind) (verify : Bool) : PassKind × List PassKind :=
  let check := if verify then [PassKind.verify] else []
  match kind with
  | .e => (.erase, .write :: check)
  | .d => (.write, check)
  | .w => (.blankCheck, .write :: check)

/-- The bias polarity the pass requires, `none` for no requirement (R1, R2, R105): an erase pass ERASE, a
write pass WRITE but on the zoned area of a D side. -/
def State.passBias (s : State) : Option Bias :=
  match s.head.pass with
  | .erase => some .erase
  | .write =>
    if (s.head.run.map fun r => r.work.zoned) = some true ∧
        (s.drive.facts.map Facts.kind) = some .d then none
    else some .write
  | .verify => none
  | .blankCheck => none
  | .read => none

/-- The passes that are held off speed: erase and write (R106). -/
def PassKind.gated : PassKind → Bool
  | .erase => true
  | .write => true
  | .verify => false
  | .blankCheck => false
  | .read => false

/-- The head goes to HOLDING with a new hold timer (R106). -/
def State.hold (s : State) : State :=
  s.mapHead fun h => { h with activity := .holding, holdTimer := some 0 }

/-- The speed condition of the pass (R106): HOLDING off speed for an erase or write pass, else
AWAITING_START. -/
def State.meetSpeed (s : State) : State :=
  if s.head.pass.gated ∧ s.drive.speed = .offSpeed then s.hold
  else s.mapHead fun h => { h with activity := .awaitingStart }

/-- On the run's track, the bias condition of the pass, then the speed condition (R105, R106). -/
def State.meetBias (s : State) : State :=
  match s.passBias with
  | none => s.meetSpeed
  | some b =>
    if s.head.bias = b then s.meetSpeed
    else
      (s.mapHead fun h =>
        { h with bias := .switching, activity := .biasing, biasTimer := some 0 }).act (.switchBias b)

/-- A seek to the run's track is commanded as issue `n` (R101). -/
def State.commandSeek (n : Nat) (s : State) : State :=
  match s.head.run with
  | none => s
  | some r =>
    (s.mapHead fun h =>
      { h with activity := .seeking, seekIssues := n, seekTimer := some 0 }).act (.seek r.track)

/-- The head goes to the run's track: straight to the pass when it is there, else by a seek (R101). -/
def State.goToTrack (s : State) : State :=
  match s.head.run with
  | none => s
  | some r => if s.head.track = some r.track then s.meetBias else s.commandSeek 1

/-- A run is begun with its first pass and the passes after it (R98 to R101). -/
def State.startRun (r : Run) (passes : PassKind × List PassKind) (s : State) : State :=
  (s.mapHead fun h =>
    { h with run := some r, pass := passes.1, later := passes.2, begun := false, revs := 0,
             seekIssues := 0, wrongTracks := 0, seekTimer := none, biasTimer := none,
             holdTimer := none }).goToTrack

/-- The head goes on to the run's next pass (R103). -/
def State.nextPass (s : State) : State :=
  match s.head.later with
  | [] => s
  | p :: ps =>
    (s.mapHead fun h =>
      ({ h with pass := p, later := ps, begun := false, revs := 0 }).setTargets
        (h.targets.map Target.fresh)).meetBias

/-- The blocks that follow in the same run: each with its slot in the state `st` where slots count, not a
listed source, at the next q, on the same track (R99, R100). -/
def State.extendRun (s : State) (it : WorkItem) (st : Option SlotState) (track : Nat) :
    Nat → List Nat → List Target
  | _, [] => []
  | q, k :: ks =>
    if st = none ∨ st = some (slotState it.id k s.slots) then
      match s.itemPlace it k with
      | none => []
      | some p =>
        if p.listed = false ∧ p.q = q + 1 ∧ p.track = track then
          freshTarget p.sector k :: s.extendRun it st track p.q ks
        else []
    else []

/-- The run of an item's next block `b` and the blocks after it (R99, R100). -/
def State.startBlocks (it : WorkItem) (st : Option SlotState) (passes : PassKind × List PassKind)
    (s : State) : State :=
  let b := it.blocksDone
  match s.itemPlace it b with
  | none => s
  | some p =>
    let after := if p.listed then []
      else s.extendRun it st p.track p.q (List.range' (b + 1) (it.count - (b + 1)))
    s.startRun ⟨p.track, freshTarget p.sector b :: after, .blocks⟩ passes

/-- The head waits for the data frame of the next block; the data timeout starts (R99, R127). -/
def State.waitForData (s : State) : State :=
  (s.mapHead fun h => { h with activity := .waitingData, run := none }).setDataTimer (some 0)

/-- The head waits for a slot for the next block (R100). -/
def State.waitForSlot (s : State) : State :=
  s.mapHead fun h => { h with activity := .waitingSlot, run := none }

/-- The head is ready for the next run of the front item (R99, R100). -/
def State.formRun (s : State) : State :=
  match s.queue with
  | [] => s
  | it :: _ =>
    match it.kind, s.drive.facts with
    | .place, some f =>
      if slotState it.id it.blocksDone s.slots = .full then
        s.startBlocks it (some .full) (writePasses f.kind it.snapshot)
      else s.waitForData
    | .fetch, some _ =>
      if slotState it.id it.blocksDone s.slots = .reading then
        s.startBlocks it (some .reading) (.read, [])
      else s.waitForSlot
    | .blank, some _ => s.startBlocks it none (.erase, [.blankCheck])
    | _, _ => s

/-- A FETCH in WAITING_SLOT goes on when its next block has been given a slot (R100, R121). -/
def State.resumeFetch (s : State) : State :=
  match s.queue with
  | [] => s
  | it :: _ =>
    if s.head.activity = .waitingSlot ∧ slotState it.id it.blocksDone s.slots = .reading then s.formRun
    else s

/-- What closes an event that takes in, removes or frees: the places it freed go to the pending lanes (R84), one
walk covers the freed slots and the new front item (R121), and a FETCH that waits for a slot may go on. -/
def State.settle (s : State) : State := s.placeAllPending.walk.resumeFetch

/-! ### The end of an item -/

/-- The item's DONE, with the values it has reached (R87a). -/
def WorkItem.doneFrame (it : WorkItem) (tag : Byte) (o : ItemOutcome) (c : WriteCause) : Frame :=
  .done tag o c it.blocksDone it.corrected it.replacements

/-- What the Work Queue passes on for an item of lane `n` (R90). -/
def WorkItem.laneResult (it : WorkItem) (n : Nat) (o : ItemOutcome) (c : WriteCause) : LaneItemResult :=
  { lane := n, outcome := o, cause := c, blocksDone := it.blocksDone, replacements := it.replacements }

/-- An item ends with its DONE, or with its result passed to the Lane Engine, and is removed (R87, R90,
R130). The freed place and the walk follow with `settle`. -/
def State.finishItem (loss : Bool) (it : WorkItem) (o : ItemOutcome) (c : WriteCause)
    (s : State) : State :=
  match it.route with
  | .tag t => (s.produce (it.doneFrame t o c)).removeItem it.id
  | .lane n => (s.removeItem it.id).laneResult loss (it.laneResult n o c)

/-- The head reports the end of the item in service and is IDLE; a FETCH with delivered blocks still unsent
goes to DELIVERING (R87, R113). -/
def State.endItem (o : ItemOutcome) (c : WriteCause) (s : State) : State :=
  let s := s.clearHead
  match s.queue with
  | [] => s
  | it :: rest =>
    if it.kind = .fetch ∧ it.sent < it.blocksDone then
      s.setQueue ({ it with state := .delivering, ended := some (o, c) } :: rest)
    else (s.finishItem false it o c).settle

/-! ### Completing blocks -/

/-- RF, and CH with `change`, are set on an extent entry (R20). -/
def State.setFlags (e : Nat) (change : Bool) (s : State) : State :=
  s.setExtents (s.extents.set e
    { s.extents.getD e Extent.blank with
      rf := true, ch := (s.extents.getD e Extent.blank).ch || change })

/-- RF, and CH with `change`, are set on the extent the item names (R20). -/
def State.setItemFlags (it : WorkItem) (change : Bool) (s : State) : State :=
  match it.extent with
  | none => s
  | some e => s.setFlags e change

/-- Block `k` of the front PLACE or BLANK item becomes complete: RF and CH, blocks-done, and the slot of a
PLACE block is freed (R20, R88, R98, R128). -/
def State.completeBlock (k : Nat) (s : State) : State :=
  match s.queue with
  | [] => s
  | it :: rest =>
    ((s.setQueue ({ it with blocksDone := it.blocksDone + 1 } :: rest)).setItemFlags it true).setSlots
      (freeSlot it.id k s.slots)

/-- Blocks become complete in the order given (R98). -/
def State.completeBlocks (ks : List Nat) (s : State) : State :=
  ks.foldl (fun s k => s.completeBlock k) s

/-- The number of leading blocks of a FETCH that have been delivered, from `k` on with `fuel` blocks to look
at: their slots are READY or SENDING (R88). -/
def leadingDelivered (id : Nat) (sl : List Slot) : Nat → Nat → Nat
  | 0, k => k
  | fuel + 1, k =>
    if slotState id k sl = .ready ∨ slotState id k sl = .sending then
      leadingDelivered id sl fuel (k + 1)
    else k

/-- The item's next run is formed, or the item ends OK when every block is complete (R98, R108, R113). -/
def State.continueItem (s : State) : State :=
  match s.queue with
  | [] => s
  | it :: _ => if it.blocksDone = it.count then s.endItem .ok .none else s.formRun

/-! ### Control-zone work -/

/-- The targets of a control run: sectors `first` to `last` (R100). -/
def controlTargets (first last : Nat) : List Target :=
  (List.range' first (last + 1 - first)).map fun n => freshTarget n n

/-- A control-zone write: erase, write and verify (R2, R116). -/
def controlPasses : PassKind × List PassKind := (.erase, [.write, .verify])

/-- A write-back of the list as it stands: the image is composed now (R67, R116). -/
def State.startWriteBack (s : State) : State :=
  let image := listImage s.list
  (s.mapHead fun h => { h with image := image }).startRun
    ⟨1, controlTargets 0 (image.length - 1), .listImage⟩ controlPasses

/-- The STORE item's control write; its image is composed when the write pass begins (R35, R116). -/
def State.startStore (s : State) : State := s.startRun ⟨2, controlTargets 0 0, .store⟩ controlPasses

/-- A control read is begun as the head's task (R115). The entries read keeps the header it has read. -/
def State.startControlRead (r : ControlRead) (s : State) : State :=
  let s := s.mapHead fun h =>
    { h.cleared with
      task := .controlRead r
      readIn := if r = .listEntries then h.readIn else [] }
  match r with
  | .format => s.startRun ⟨0, controlTargets 0 0, .control⟩ (.read, [])
  | .listHeader => s.startRun ⟨1, controlTargets 0 0, .control⟩ (.read, [])
  | .listEntries =>
    s.startRun ⟨1, controlTargets 1 (entrySectors ((headerCount (sectorData 0 s.head.readIn)).getD 0)),
      .control⟩ (.read, [])
  | .extents => s.startRun ⟨2, controlTargets 0 0, .control⟩ (.read, [])

/-- NOTICE LIST_WRITE_FAILED for the list as it stands (R68). -/
def State.notifyWriteFailed (o : ItemOutcome) (c : WriteCause) (s : State) : State :=
  s.notify (.listWriteFailed s.list.entries.length s.list.next o c)

/-! ### Replacement -/

/-- The failing block in hand is written again at its new location as a run of its own, verify included
(R109 steps 4 and 5). -/
def State.startRewrite (s : State) : State :=
  match s.queue, s.head.failing, s.drive.facts with
  | it :: _, k :: _, some f =>
    match s.itemPlace it k with
    | none => s
    | some p => s.startRun ⟨p.track, [freshTarget p.sector k], .rewrite⟩ (writePasses f.kind true)
  | _, _, _ => s

/-- The head takes up the lowest failing block with the relocation count it has reached (R64, R65, R109). -/
def State.takeUpFailing (s : State) : State :=
  match s.queue, s.head.failing, s.drive.facts with
  | it :: _, k :: _, some f =>
    if s.head.relocations = Config.relocations then s.endItem .writeFailed .chain
    else
      match s.itemPsa it k with
      | none => s
      | some p =>
        match allocate f.spares p s.list with
        | .failed c => s.endItem .writeFailed c
        | .spare l =>
          let s := ((s.setList l).mapFront fun it => { it with replacements := it.replacements + 1 }).mapHead
            fun h => { h with relocations := h.relocations + 1 }
          if s.profile.listUpdate = .immediate then s.startWriteBack else s.startRewrite
  | _, _, _ => s

/-! ### The mount (R154, R155, R73, R36, R37) -/

/-- The spindle is set OFF: the revolution timer and the speed status take their values, the head track
becomes unknown and the bias state UNSET (R96, R159, R160). -/
def State.spindleOff (s : State) : State :=
  let s' := (s.mapDrive fun d =>
    { d with spindle := false, counter := 0, period := none, tracking := false, speed := .offSpeed,
             good := 0 }).mapHead fun h => { h with track := none, bias := .unset }
  if s.drive.spindle then s'.act .spindleOff else s'

/-- The drive enters FAULTED with its cause and NOTICE MOUNT_FAILED (R153, R154, R155). -/
def State.mountFails (c : MountFault) (s : State) : State :=
  ((s.mapDrive fun d => { d with state := .faulted, mountFault := some c, spinUp := none }).spindleOff).notify
    (.mountFailed c)

/-- The drive enters READY with NOTICE MEDIA_READY (R154). -/
def State.mountSucceeds (s : State) : State :=
  match s.drive.facts with
  | none => s
  | some f =>
    (s.mapDrive fun d => { d with state := .ready }).notify
      (.mediaReady f.kind s.drive.tab f.users f.spares s.list.entries.length s.list.next s.drive.speed)

/-- Step 1 of the mount has its result: the delivered sector, or `none` when it could not be read (R8,
R154). -/
def State.formatRead (b : Option Block) (s : State) : State :=
  match b.bind readFormat with
  | none => s.mountFails .format
  | some f => (s.mapDrive fun d => { d with facts := some f }).startControlRead .listHeader

/-- Step 2 of the mount has its result: the delivered sectors, or `none` (R10, R73, R154). -/
def State.listRead (sectors : Option (List (Nat × Block))) (s : State) : State :=
  match s.drive.facts.bind (fun f => sectors.bind (readList f)) with
  | none => s.mountFails .list
  | some l =>
    let s := s.setList l
    if s.drive.mountSource = .cartridge then s.startControlRead .extents else s.mountSucceeds

/-- Step 3 of the mount has its result (R11, R36, R37, R154). -/
def State.extentsRead (b : Option Block) (s : State) : State :=
  match b.bind readExtents with
  | some es => (s.setExtents es).mountSucceeds
  | none =>
    ((s.setExtents (List.replicate Config.extentEntries Extent.blank)).notify .tableMissing).mountSucceeds

/-- A control read has delivered every sector of its run (R115). -/
def State.controlReadDone (r : ControlRead) (s : State) : State :=
  let sectors := s.head.readIn
  let s := s.clearHead
  match r with
  | .format => s.formatRead (some (sectorData 0 sectors))
  | .listHeader =>
    match headerCount (sectorData 0 sectors) with
    | none => s.listRead (some sectors)
    | some 0 => s.listRead (some sectors)
    | some (_ + 1) => (s.mapHead fun h => { h with readIn := sectors }).startControlRead .listEntries
  | .listEntries => s.listRead (some sectors)
  | .extents => s.extentsRead (some (sectorData 0 sectors))

/-- A control read ends without delivering: the record fails as a sector that could not be read (R6,
R115). -/
def State.controlReadFails (r : ControlRead) (s : State) : State :=
  let s := s.clearHead
  match r with
  | .format => s.formatRead none
  | .listHeader => s.listRead none
  | .listEntries => s.listRead none
  | .extents => s.extentsRead none

/-! ### The end of a task -/

/-- A control write has ended in success (R35, R68, R71, R116). -/
def State.controlWriteDone (s : State) : State :=
  match s.head.task, s.head.run.map Run.work with
  | .item, some .store => (s.mapFront fun it => { it with blocksDone := 1 }).endItem .ok .none
  | .item, some .listImage =>
    let s := s.mapList fun l => { l with dirty := false }
    match s.queue with
    | [] => s
    | it :: _ =>
      if it.kind = .flush then (s.mapFront fun it => { it with blocksDone := 1 }).endItem .ok .none
      else (s.mapHead fun h => { h with image := [] }).startRewrite
  | .writeBack _, _ => (s.mapList fun l => { l with dirty := false }).clearHead
  | _, _ => s

/-- A rule ends the head's task with an outcome and cause (R68, R71, R113, R115, R116). -/
def State.endTask (o : ItemOutcome) (c : WriteCause) (s : State) : State :=
  match s.head.task with
  | .none => s
  | .item =>
    if (s.head.run.map Run.work) = some .listImage then
      let s := s.notifyWriteFailed o c
      match s.queue with
      | [] => s
      | it :: _ =>
        if it.kind = .flush then s.endItem o c
        else (s.mapHead fun h => { h with image := [] }).startRewrite
    else s.endItem o c
  | .writeBack .unload => (s.mapDrive fun d => { d with tried := true }).clearHead
  | .writeBack .request => (s.notifyWriteFailed o c).clearHead
  | .writeBack .endedItem => (s.notifyWriteFailed o c).clearHead
  | .controlRead r => s.controlReadFails r

/-- The head's work is cut (R114): a seek in flight leaves the head track unknown, a bias switch leaves the
bias state UNSET, and everything of the task is cleared. -/
def State.cutHead (s : State) : State :=
  (s.mapHead fun h =>
    { h with
      track := if h.activity = .seeking then none else h.track
      bias := if h.activity = .biasing then .unset else h.bias }).clearHead

/-- The head's work on an item that was ended from outside is cut; a write-back carried out inside the item
is not, and goes on to its own end (R114). -/
def State.cutItem (s : State) : State :=
  if (s.head.run.map Run.work) = some .listImage then
    (s.mapHead fun h =>
      { h with task := .writeBack .endedItem, relocations := 0, failing := [], matched := [] }).setDataTimer
      none
  else s.cutHead

/-- An item is ended by the Sector Buffer (R114, R125, R127). -/
def State.endFromOutside (it : WorkItem) (o : ItemOutcome) (s : State) : State :=
  ((if it.state = .inService then s.cutItem else s).finishItem false it o .none).settle

end Sys2Proof.Machine
end

