-- ==== Sys2Proof/Machine/Passes.lean ====
section
/-! DEFINITION. Passes: acting on targets, the end of a pass, and the results of verify, read and blank-check
passes (R102 to R104, R107 to R112). -/

namespace Sys2Proof.Machine

/-- The target of the current pass in sector `n`. -/
def findTarget (n : Nat) : List Target → Option Target
  | [] => none
  | t :: ts => if t.sector = n then some t else findTarget n ts

/-- Every target below sector `n` that the round has still to act on has been acted on (R103). -/
def lowerActed (n : Nat) (ts : List Target) : Bool :=
  ts.all fun t => decide (n ≤ t.sector) || decide (t.stage ≠ .toAct)

/-- The target in sector `n` replaced by `f` of it. -/
def mapTarget (n : Nat) (f : Target → Target) (ts : List Target) : List Target :=
  ts.map fun t => if t.sector = n then f t else t

/-- The target in sector `n` of the current pass replaced by `f` of it. -/
def State.mapTargetAt (n : Nat) (f : Target → Target) (s : State) : State :=
  s.mapHead fun h => h.setTargets (mapTarget n f h.targets)

/-- Every target has been acted on and every result it called for has been taken (R103). -/
def roundOver (ts : List Target) : Bool :=
  ts.all fun t => decide (t.stage = .good) || decide (t.stage = .bad)

/-- The revolution count has reached 4 with a target not yet acted on in the first round (R104). -/
def State.passOverdue (s : State) : Bool :=
  decide (s.head.activity = .inPass) && decide (s.head.revs = Config.passRevolutions) &&
    s.head.targets.any fun t => !t.seen

/-- The data the part records at, or expects from, a target: the slot of the block, or the sector of the
control image (R107, R108, R116). -/
def State.targetData (s : State) (r : Run) (t : Target) : Block :=
  if r.work.zoned then
    match s.queue with
    | [] => zeroBlock
    | it :: _ => slotData it.id t.block s.slots
  else s.head.image.getD t.sector zeroBlock

/-! ### Dealing with results -/

/-- The blocks of the failing list have all been dealt with as far as the lowest: the matched blocks below
the next failing block become complete, and the head goes on (R108). -/
def State.afterRewrite (s : State) : State :=
  match s.head.failing with
  | [] =>
    let ks := s.head.matched
    ((s.completeBlocks ks).mapHead fun h => { h with matched := [] }).continueItem
  | g :: _ =>
    let ks := s.head.matched.takeWhile (fun m => decide (m < g))
    ((s.completeBlocks ks).mapHead fun h =>
      { h with matched := h.matched.dropWhile (fun m => decide (m < g)) }).takeUpFailing

/-- The end of the verify pass of a rewrite (R109). -/
def State.rewriteVerified (ok : Bool) (s : State) : State :=
  if ok then
    match s.head.failing with
    | [] => s
    | k :: ks =>
      ((s.completeBlock k).mapHead fun h => { h with failing := ks, relocations := 0 }).afterRewrite
  else s.takeUpFailing

/-- The end of the verify pass of a run formed from the item's blocks (R108). -/
def State.blocksVerified (ts : List Target) (s : State) : State :=
  let before := ts.takeWhile (fun t => decide (t.stage = .good))
  let after := ts.dropWhile (fun t => decide (t.stage = .good))
  let s := s.completeBlocks (before.map Target.block)
  match after with
  | [] => s.continueItem
  | _ :: _ =>
    let failing := (after.filter fun t => decide (t.stage ≠ .good)).map Target.block
    let matched := (after.filter fun t => decide (t.stage = .good)).map Target.block
    (s.mapHead fun h => { h with failing := failing, matched := matched, relocations := 0 }).takeUpFailing

/-- The end of a verify pass (R108, R109, R116). -/
def State.verifyEnds (r : Run) (s : State) : State :=
  match r.work with
  | .blocks => (s.blocksVerified r.targets).settle
  | .rewrite => (s.rewriteVerified (r.targets.all fun t => decide (t.stage = .good))).settle
  | .store | .listImage =>
    if r.targets.all fun t => decide (t.stage = .good) then s.controlWriteDone
    else s.endTask .writeFailed .verify
  | .control => s

/-- The slots of a run move from FULL to WRITTEN at the end of its write pass (R107, R128). -/
def State.slotsWritten (ts : List Target) (s : State) : State :=
  match s.queue with
  | [] => s
  | it :: _ =>
    s.setSlots (ts.foldl (fun sl t =>
      if slotState it.id t.block sl = .full then moveSlot it.id t.block .written sl else sl) s.slots)

/-- The end of a write pass (R107). -/
def State.writeEnds (r : Run) (s : State) : State :=
  if r.work.zoned then
    let s := s.slotsWritten r.targets
    if s.head.later = [] then ((s.completeBlocks (r.targets.map Target.block)).continueItem).settle
    else s.nextPass
  else s.nextPass

/-- The round of a read pass is over: a new round for the targets that may be tried again, or the end of the
pass (R112, R115). -/
def State.readRoundEnds (r : Run) (s : State) : State :=
  if r.targets.any fun t => decide (t.stage = .bad ∧ t.attempts < Config.readAttempts) then
    s.mapHead fun h => h.setTargets (h.targets.map fun t =>
      if t.stage = .bad ∧ t.attempts < Config.readAttempts then { t with stage := .toAct } else t)
  else if r.targets.any fun t => decide (t.stage = .bad) then s.endTask .readFailed .none
  else
    match s.head.task with
    | .controlRead c => s.controlReadDone c
    | .none => s
    | .item => s.continueItem
    | .writeBack _ => s

/-- The end of a blank-check pass whose targets were all blank (R110, R111): a BLANK run is done, a write run
goes on to its write pass. -/
def State.blankCheckEnds (s : State) : State :=
  if s.head.later = [] then s.continueItem else s.nextPass

/-- The pass or round ends when every target has been dealt with (R103, R112). -/
def State.endPassIfOver (s : State) : State :=
  match s.head.run with
  | none => s
  | some r =>
    if roundOver r.targets then
      match s.head.pass with
      | .erase => s.nextPass
      | .write => s.writeEnds r
      | .verify => s.verifyEnds r
      | .blankCheck => s.blankCheckEnds
      | .read => s.readRoundEnds r
    else s

/-- A target found not blank (R110, R111): a BLANK item ends ERASE_FAILED; a run formed from a PLACE item's
blocks ends it ALREADY_WRITTEN; a rewrite at a spare just allocated goes back to allocation. -/
def State.notBlank (r : Run) (s : State) : State :=
  match r.work with
  | .rewrite => s.takeUpFailing.settle
  | .blocks | .store | .listImage | .control =>
    match s.queue with
    | [] => s
    | it :: _ =>
      if it.kind = .blank then s.endItem .eraseFailed .none else s.endItem .alreadyWritten .none

/-! ### Sector ID arrivals (R102, R103, R106) -/

/-- The target has been acted on in this round with the stage `st` (R103, R104). -/
def Target.acted (st : Stage) (t : Target) : Target := { t with stage := st, seen := true }

/-- The result a target was awaiting is taken as uncorrectable or fail (R103, R112). -/
def Target.failed (t : Target) : Target := { t with stage := .bad, attempts := t.attempts + 1 }

/-- The pass acts on the target `t` at the arrival of its sector (R103, R107, R108, R110 to R112). -/
def State.actOnTarget (r : Run) (t : Target) (blankMark : Bool) (s : State) : State :=
  match s.head.pass with
  | .erase =>
    ((s.mapTargetAt t.sector (Target.acted .good)).act (.erase r.track t.sector)).endPassIfOver
  | .write =>
    ((s.mapTargetAt t.sector (Target.acted .good)).act
      (.write r.track t.sector (s.targetData r t))).endPassIfOver
  | .verify =>
    (s.mapTargetAt t.sector (Target.acted .awaiting)).act
      (.compare r.track t.sector (s.targetData r t))
  | .read => (s.mapTargetAt t.sector (Target.acted .awaiting)).act (.read r.track t.sector)
  | .blankCheck =>
    if blankMark then
      let s := s.mapTargetAt t.sector (Target.acted .good)
      let s := if s.head.later = [] then s.completeBlock t.block else s
      s.endPassIfOver
    else s.notBlank r

/-- A sector ID arrival on the run's track during the pass (R103). -/
def State.passArrival (r : Run) (sector : Nat) (blankMark : Bool) (s : State) : State :=
  match findTarget sector r.targets with
  | none => s
  | some t =>
    match t.stage with
    | .toAct => if lowerActed sector r.targets then s.actOnTarget r t blankMark else s
    | .awaiting => (s.mapTargetAt sector Target.failed).endPassIfOver
    | .good => s
    | .bad => s

/-- The pass begins: IN_PASS with revolution count 0; the STORE image is composed when its write pass begins,
and a suspended pass resumes with what it has (R35, R102, R103). -/
def State.beginPass (r : Run) (s : State) : State :=
  s.mapHead fun h =>
    { h with
      activity := .inPass, revs := 0, begun := true
      image := if r.work = .store ∧ h.pass = .write ∧ h.begun = false then extentImage s.extents
        else h.image }

/-- The conditions of R103 on the tab and the bias state for the pass that would begin. Both are met by
acceptance (R15) and by R105 in every state the part reaches. -/
def State.mayBegin (s : State) : Bool :=
  (!(s.head.pass.gated && s.protectedTab)) &&
    (match s.passBias with
    | none => true
    | some b => decide (s.head.bias = b))

/-- A wrong-track event (R102). -/
def State.wrongTrack (s : State) : State :=
  if s.head.wrongTracks = 0 then
    (s.mapHead fun h => { h with wrongTracks := 1, track := none }).commandSeek 1
  else (s.mapHead fun h => { h with track := none }).endTask .seekFailed .none

/-- A sector ID arrival (R102, R103, R104, R106). -/
def State.sectorId (track sector : Nat) (blankMark : Bool) (s : State) : State :=
  match s.head.run with
  | none => s
  | some r =>
    match s.head.activity with
    | .awaitingStart =>
      if track ≠ r.track then s.wrongTrack
      else if s.head.pass.gated ∧ s.drive.speed = .offSpeed then s.hold
      else if s.mayBegin then (s.beginPass r).passArrival r sector blankMark
      else s
    | .inPass =>
      if s.passOverdue then s
      else if track ≠ r.track then s.wrongTrack
      else s.passArrival r sector blankMark
    | .idle | .waitingData | .waitingSlot | .seeking | .biasing | .holding => s

/-! ### Results (R108, R112) -/

/-- A target of the pass in progress that awaits its result for this track and sector (R103). -/
def State.awaitedTarget (s : State) (pass : PassKind) (track sector : Nat) : Option (Run × Target) :=
  match s.head.run with
  | none => none
  | some r =>
    if s.head.activity = .inPass ∧ s.head.pass = pass ∧ r.track = track ∧ s.passOverdue = false then
      match findTarget sector r.targets with
      | none => none
      | some t => if t.stage = .awaiting then some (r, t) else none
    else none

/-- A delivered sector of a FETCH item (R13, R89, R112, R129). -/
def State.deliver (t : Target) (d : Block) (corrected : Nat) (s : State) : State :=
  match s.queue with
  | [] => s
  | it :: rest =>
    let sl := fillSlot it.id t.block .ready d s.slots
    let it' : WorkItem := { it with
      corrected := min Config.correctedTop (it.corrected + corrected)
      blocksDone := leadingDelivered it.id sl (it.count - it.blocksDone) it.blocksDone }
    ((s.setSlots sl).setQueue (it' :: rest)).setItemFlags it false

/-- A read data event (R13, R112, R115). -/
def State.readData (track sector : Nat) (res : ReadResult) (s : State) : State :=
  match s.awaitedTarget .read track sector with
  | none => s
  | some (r, t) =>
    match res with
    | .uncorrectable => (s.mapTargetAt sector Target.failed).endPassIfOver
    | .delivered d corrected =>
      let s := s.mapTargetAt sector (Target.acted .good)
      (if r.work = .control then s.mapHead fun h => { h with readIn := h.readIn ++ [(sector, d)] }
       else s.deliver t d corrected).endPassIfOver

/-- A verify compare result (R14, R108). -/
def State.verifyResult (track sector : Nat) (isMatch : Bool) (s : State) : State :=
  match s.awaitedTarget .verify track sector with
  | none => s
  | some _ =>
    (s.mapTargetAt sector (Target.acted (if isMatch then .good else .bad))).endPassIfOver

/-! ### Seeks, bias and timers (R101, R105, R106) -/

/-- A seek-complete event (R101). It ends whatever seek is in flight, one that an abandoned seek left over
included, since an event says no more than that a seek is complete (DESIGN CHOICE, log entry 31; R114, R117). -/
def State.seekArrives (s : State) : State :=
  match s.head.run with
  | none => s
  | some r =>
    if s.head.activity = .seeking then
      (s.mapHead fun h => { h with track := some r.track, seekTimer := none }).meetBias
    else s

/-- A bias-ready event (R105): the bias state becomes the requested polarity. It ends whatever switch is in
flight, one that an abandoned switch left over included (DESIGN CHOICE, log entry 31; R114, R117). -/
def State.biasArrives (s : State) : State :=
  match s.passBias with
  | none => s
  | some b =>
    if s.head.activity = .biasing ∧ s.head.bias = .switching then
      (s.mapHead fun h => { h with bias := b, biasTimer := none }).meetSpeed
    else s

/-- The seek timer expires (R101). -/
def State.seekExpires (s : State) : State :=
  if s.head.activity = .seeking then
    if s.head.seekIssues = 1 then s.commandSeek 2
    else (s.mapHead fun h => { h with track := none }).endTask .seekFailed .none
  else s

/-- The bias timer expires (R105). -/
def State.biasExpires (s : State) : State :=
  if s.head.activity = .biasing then
    (s.mapHead fun h => { h with bias := .unset }).endTask .biasFailed .none
  else s

/-- The hold timer expires (R106). -/
def State.holdExpires (s : State) : State :=
  if s.head.activity = .holding then s.endTask .spindle .none else s

/-- The revolution count of the pass has reached 4 with a target not yet seen (R104). -/
def State.missingEnds (s : State) : State :=
  if s.passOverdue then s.endTask .sectorMissing .none else s

end Sys2Proof.Machine
end

