-- ==== Sys2Proof/Machine/DriveOps.lean ====
section
/-! DEFINITION. The Drive Supervisor: insertion, index arrivals and the speed status, unload, loss, RESTART and
hardware reset (chapters 9 and 11, R93, R117, R118, R131). -/

namespace Sys2Proof.Machine

/-! ### The revolution timer and the speed status (R159 to R161) -/

/-- A period inside the speed window (R160). -/
def inWindow (p : Nat) : Bool := decide (Config.windowLow ≤ p) && decide (p ≤ Config.windowHigh)

/-- The drive enters MOUNTING: the spin-up timer stops, the mount source is fixed and the format record is
asked for (R153, R154). -/
def State.startMount (s : State) : State :=
  (s.mapDrive fun d =>
    { d with state := .mounting, spinUp := none, mountSource := s.profile.extentSource }).startControlRead
    .format

/-- The speed status becomes `new` at an index arrival or an index loss; `period` is the captured period
(R106, R153, R160, R161). -/
def State.speedBecomes (new : SpeedStatus) (period : Option Nat) (s : State) : State :=
  let was := s.drive.speed
  let s := s.mapDrive fun d => { d with speed := new }
  if was = new then s
  else
    match new with
    | .offSpeed => if s.drive.state = .ready then s.notify (.speedLost period) else s
    | .inSpeed =>
      let s := if s.drive.state = .ready then s.notify (.speedBack (periodValue period)) else s
      let s := if s.head.activity = .holding then
          s.mapHead fun h => { h with activity := .awaitingStart, holdTimer := none }
        else s
      if s.drive.state = .spinningUp then s.startMount else s

/-- An index arrival adds to the revolution count of a pass (R104). -/
def State.countRevolution (s : State) : State :=
  if s.head.activity = .inPass then
    s.mapHead fun h => { h with revs := min Config.passRevolutions (h.revs + 1) }
  else s

/-- An index arrival with the counter at `v`, the spindle ON (R159, R160). -/
def State.indexAt (v : Nat) (s : State) : State :=
  if s.drive.tracking then
    let good := if inWindow v then min 2 (s.drive.good + 1) else 0
    let new := if inWindow v then (if good = 2 then SpeedStatus.inSpeed else s.drive.speed)
      else SpeedStatus.offSpeed
    ((s.mapDrive fun d => { d with period := some v, counter := 0, good := good }).countRevolution).speedBecomes
      new (some v)
  else (s.mapDrive fun d => { d with counter := 0, tracking := true }).countRevolution

/-- The revolution counter reaches 65,535: the index is lost (R104, R159, R160, R161). NOTICE SPEED_LOST is
produced before the end of the head's task is reported: R168 leaves the order open (DESIGN CHOICE, log entry
32). -/
def State.indexLoss (s : State) : State :=
  if s.drive.spindle ∧ s.drive.counter ≠ Config.counterTop then
    let s := (s.mapDrive fun d =>
      { d with counter := Config.counterTop, period := none, tracking := false, good := 0 }).speedBecomes
      .offSpeed none
    if s.head.activity = .awaitingStart ∨ s.head.activity = .inPass then s.endTask .sectorMissing .none
    else s
  else s

/-- An index arrival `elapsed` microseconds after the value the counter stands at. When the counter would
have reached 65,535 first, the index is lost first (R159). While the spindle is OFF the arrival is passed
over. -/
def State.indexArrives (elapsed : Nat) (s : State) : State :=
  if s.drive.spindle then
    if s.drive.counter + elapsed < Config.counterTop then s.indexAt (s.drive.counter + elapsed)
    else
      let s := s.indexLoss
      if s.drive.spindle then s.indexAt s.drive.counter else s
  else s

/-! ### Insertion and spin-up (R153, R155) -/

/-- An insertion taken in EMPTY; in any other state it is passed over (R153). -/
def State.insert (tab : Bool) (s : State) : State :=
  if s.drive.state = .empty then
    (s.mapDrive fun d =>
      { d with
        tab := some tab, spindle := true, counter := 0, period := none, tracking := false
        speed := .offSpeed, good := 0, spinUp := some 0, state := .spinningUp
        tried := false }).act .spindleOn
  else s

/-- The spin-up timer reaches 6 s with the speed status OFF_SPEED (R153, R155). -/
def State.spinUpExpires (s : State) : State :=
  if s.drive.state = .spinningUp ∧ s.drive.spinUp.isSome ∧ s.drive.speed = .offSpeed then
    s.mountFails .spin
  else s

/-! ### Unload (R156, R157, R74) -/

/-- Every ACTIVE lane halts with cause UNLOAD, in ascending lane number (R149). -/
def State.unloadLanes (s : State) : State :=
  laneNumbers.foldl (fun s n =>
    if (s.lane n).state = .active then s.haltLane true n .unload else s) s

/-- An unload starts (R156). -/
def State.startUnload (s : State) : State :=
  let from_ := s.drive.state
  let s := s.mapDrive fun d =>
    { d with state := .unloading, spinUp := none, mountFault := none, tried := false }
  match from_ with
  | .mounting => s.cutHead
  | .ready => (s.unloadLanes).settle
  | .spinningUp => s
  | .faulted => s
  | .empty => s
  | .unloading => s

/-- The list is discarded; NOTICE LIST_LOST with the mark is sent when it was loaded and dirty (R74, R75). -/
def State.discardList (atLoss : Bool) (s : State) : State :=
  let s' := s.setList ReplacementList.unloaded
  if s.list.loaded ∧ s.list.dirty then
    s'.notify (.listLost atLoss s.list.entries.length s.list.next)
  else s'

/-- One ANSWER OK for each UNLOAD tag, in arrival order, and none is left (R157, R158). -/
def State.answerUnloads (s : State) : State :=
  (s.produceAll (s.drive.answers.map fun t => Frame.answer Kind.unload t .ok .none)).mapDrive fun d =>
    { d with answers := [] }

/-- The facts and the tab fact become absent and the drive is EMPTY (R16, R157, R158). -/
def State.becomeEmpty (s : State) : State :=
  s.mapDrive fun d =>
    { d with state := .empty, facts := none, tab := none, mountFault := none, spinUp := none,
             tried := false }

/-- Steps 2 to 7 of an unload (R157). -/
def State.releaseCartridge (s : State) : State :=
  (((((s.discardList false).spindleOff).act .release).notify (.mediaGone false)).answerUnloads).becomeEmpty

/-- The unload goes on: with the queue empty and the head free, it asks for the write-back of a loaded and
dirty list, once, and otherwise completes (R74, R157). A raised write-back request is served by the same
attempt. It waits for any write-back in flight, one inside an item ended from outside included (R114), and then
tests the dirty flag, where R74 and R157 name the request's alone (DEDUCED, log entry 34). -/
def State.completeUnload (s : State) : State :=
  if s.drive.state = .unloading ∧ s.queue = [] ∧ s.head.task = .none then
    if s.list.loaded ∧ s.list.dirty ∧ s.drive.tried = false then
      ((s.mapList fun l => { l with request := false }).mapHead fun h =>
        { h with task := .writeBack .unload }).startWriteBack
    else s.releaseCartridge
  else s

/-! ### Cartridge loss (R93, R118, R131, R149, R158) -/

/-- The data frames of a FETCH item's delivered leading blocks that have not been sent, in block order
(R93, R131). -/
def State.unsentFrames (s : State) (it : WorkItem) : List Frame :=
  match it.kind, it.route with
  | .fetch, .tag t =>
    (List.range' it.sent (it.blocksDone - it.sent)).map fun k => .data t k (slotData it.id k s.slots)
  | _, _ => []

/-- One item ends MEDIA_GONE: unsent delivered blocks first, then its DONE or its result (R93). R131 sends those blocks
as R129 gives, one at a time through the link; here all their data frames join the outbound sequence within the event,
and the slots are freed with the item (DESIGN CHOICE, log entry 35). -/
def State.loseItem (s : State) (it : WorkItem) : State :=
  (s.produceAll (s.unsentFrames it)).finishItem true it .mediaGone .none

/-- A cartridge-lost event (R158); in EMPTY it is passed over. -/
def State.loseCartridge (s : State) : State :=
  if s.drive.state = .empty then s
  else
    let s := (s.cutHead).mapHead fun h => { h with track := none, bias := .unset }
    let s := s.queue.foldl State.loseItem s
    let s := laneNumbers.foldl (fun s n =>
      if (s.lane n).state = .active then s.haltLane false n (.outcome .mediaGone .none) else s) s
    ((((s.discardList true).spindleOff).notify (.mediaGone true)).answerUnloads).becomeEmpty

/-! ### RESTART and hardware reset (R177, R178, R179) -/

/-- A lane after RESTART (R151). -/
def Lane.restarted (l : Lane) : Lane :=
  { l with state := .idle, pendingPost := none, halt := none, stops := [] }

/-- The control read that RESTART starts again for the one in flight: the same record from its beginning
(R117). -/
def ControlRead.again : ControlRead → ControlRead
  | .format => .format
  | .listHeader => .listHeader
  | .listEntries => .listHeader
  | .extents => .extents

/-- RESTART up to its ANSWER (R177). -/
def State.restartAll (s : State) : State :=
  let task := s.head.task
  let s := (s.cutHead).mapHead fun h => { h with bias := .unset }
  let s := (s.setQueue []).setSlots (s.slots.map Slot.release)
  let s := s.setLanes (s.lanes.map Lane.restarted)
  let s := s.setFault FaultRecord.empty
  let s := s.mapList fun l => { l with request := false }
  let s := s.mapDrive fun d => { d with answers := [] }
  match task with
  | .controlRead r => s.startControlRead r.again
  | .none => s
  | .item => s
  | .writeBack _ => s

/-- Every piece of state at its value for hardware reset asserted; the waiting commands stay (R179). -/
def State.holdReset (s : State) : State := (State.reset.setHeld true).setPending s.pending

/-- The profile that the straps give (chapter 11.1, R173). -/
def Straps.profile (p : Straps) : Profile :=
  ⟨if p.extentSource then .cartridge else .link, !p.verify,
    if p.listUpdate then .immediate else .deferred⟩

/-- The release of hardware reset (R179). -/
def State.releaseReset (p : Straps) (cartridge : Option Bool) (s : State) : State :=
  let s := ((s.setHeld false).setProfile (Straps.profile p)).setReceiver Receiver.hunting
  match cartridge with
  | none => s
  | some tab => s.insert tab

end Sys2Proof.Machine
end

