-- ==== Sys2Proof/Machine/BufferOps.lean ====
section
/-! DEFINITION. Data frames in both directions, the data timeout and the outbound sequence (R124 to R129,
R168). -/

namespace Sys2Proof.Machine

/-- Block `k` of an item holds an AWAITING slot. -/
def State.awaits (s : State) (it : WorkItem) (k : Nat) : Bool :=
  decide (slotState it.id k s.slots = .awaiting)

/-- The lowest block of an item with an AWAITING slot, looking at `fuel` blocks from `k` on. -/
def State.lowestAwaiting (s : State) (it : WorkItem) : Nat → Nat → Option Nat
  | 0, _ => none
  | fuel + 1, k => if s.awaits it k then some k else s.lowestAwaiting it fuel (k + 1)

/-- A PLACE item is awaiting data: an AWAITING or a slotless block (R124). -/
def State.awaitingData (s : State) (it : WorkItem) : Bool :=
  decide (it.kind = .place) &&
    (decide (it.given < it.count) || (s.lowestAwaiting it it.count 0).isSome)

/-- The oldest item of a route that is awaiting data (R124). -/
def State.frameTaker (s : State) (route : Route) : List WorkItem → Option WorkItem
  | [] => none
  | it :: rest => if it.route = route ∧ s.awaitingData it = true then some it else s.frameTaker route rest

/-- The frame is accepted into the slot of block `k` (R124); the head goes on when it waits for it. -/
def State.acceptFrame (it : WorkItem) (k : Nat) (d : Block) (s : State) : State :=
  let s := s.setSlots (fillSlot it.id k .full d s.slots)
  if s.head.task = .item ∧ s.head.activity = .waitingData ∧ it.state = .inService ∧ k = it.blocksDone then
    (s.setDataTimer none).formRun
  else s

/-- An inbound data frame (R124, R125, R126). -/
def State.takeData (route : Route) (index : Word16) (d : Block) (s : State) : State :=
  match s.frameTaker route s.queue with
  | none => s.notify (.stray route index.toNat)
  | some it =>
    match s.lowestAwaiting it it.count 0 with
    | none => s.endFromOutside it .dataOrder
    | some k =>
      if it.indexOf k = index.toNat then s.acceptFrame it k d else s.endFromOutside it .dataOrder

/-- The data timeout expires (R127). -/
def State.dataExpires (s : State) : State :=
  match s.dataTimer, s.queue with
  | some _, it :: _ => s.endFromOutside it .dataTimeout
  | _, _ => s

/-- A frame is a read data frame. -/
def Frame.isData : Frame → Bool
  | .answer _ _ _ _ => false
  | .done _ _ _ _ _ _ => false
  | .credit _ _ => false
  | .notice _ => false
  | .data _ _ _ => true

/-- No data frame is waiting in the sequence and no slot is being taken (R168). The front frame of the
sequence is the one being sent; it is not waiting. -/
def State.linkFree (s : State) : Bool :=
  !(s.outbound.tail.any Frame.isData) && !(s.slots.any fun x => decide (x.state = .sending))

/-- The Link Interface begins taking the next READY block of the front FETCH item (R129, R168). -/
def State.beginSend (s : State) : State :=
  match s.queue with
  | [] => s
  | it :: _ =>
    if it.kind = .fetch ∧ s.linkFree = true ∧ slotState it.id it.sent s.slots = .ready then
      s.setSlots (moveSlot it.id it.sent .sending s.slots)
    else s

/-- The Link Interface has taken the whole SENDING block: its data frame is produced, the slot becomes FREE,
and after the last counted block the DONE is produced (R87, R129). -/
def State.dataProduced (s : State) : State :=
  match s.queue with
  | [] => s
  | it :: rest =>
    match it.route with
    | .lane _ => s
    | .tag t =>
      if it.kind = .fetch ∧ slotState it.id it.sent s.slots = .sending then
        let it' : WorkItem := { it with sent := it.sent + 1 }
        let s := ((s.produce (.data t it.sent (slotData it.id it.sent s.slots))).setQueue
          (it' :: rest)).setSlots (freeSlot it.id it.sent s.slots)
        match it.ended with
        | none => s.settle
        | some (o, c) =>
          if it'.sent = it'.blocksDone then (s.finishItem false it' o c).settle else s.settle
      else s

/-- The frame being sent has left whole, escaped and with its CRC; the next one of the sequence follows
(R163, R168). -/
def State.sendFrame (s : State) : State :=
  match s.outbound with
  | [] => s
  | f :: rest => (s.setLine (s.line ++ wireOf f.content)).setOutbound rest

end Sys2Proof.Machine
end

