-- ==== Sys2Proof/Machine/MediaOrders.lean ====
section
/-! DEFINITION. The orders that become work items: FETCH, PLACE, BLANK, STORE EXTENTS, FLUSH LIST (R34, R70,
R79 to R82), with the operations every order shares. -/

namespace Sys2Proof.Machine

/-- A command's effect as an outcome: while the reset line is asserted the part takes no event (R179). -/
def State.unlessHeld (s : State) (f : State → State) : Host.Outcome State Fault Refusal :=
  .next (if s.held then s else f s)

/-- A frame has arrived whole: its start byte emptied the assembly and its end byte put the receiver back to
HUNTING (R164). -/
def State.frameArrived (s : State) : State := s.setReceiver Receiver.hunting

/-- The part takes a frame that arrived whole. -/
def State.takeFrame (s : State) (f : State → State) : Host.Outcome State Fault Refusal :=
  s.unlessHeld fun s => f s.frameArrived

/-- The length test and the class test of the Link Interface, in this order (R166 tests 2 and 3). -/
def linkRefusal (lengthOk service : Bool) (cls : Byte) : Option Code :=
  if lengthOk then (if service ∧ classOf cls = .ordinary then some .cls else none) else some .badLength

/-- An order past the Link Interface: refused by it, or handed to the block that owns it (R166). -/
def State.handOver (kind cls tag : Byte) (lengthOk service : Bool) (owner : State → State)
    (s : State) : State :=
  match linkRefusal lengthOk service cls with
  | some c => s.refuse kind tag c
  | none => owner s

/-- The item kinds whose order carries a count (R79 step 4). -/
def ItemKind.counted : ItemKind → Bool
  | .fetch => true
  | .place => true
  | .blank => true
  | .store => false
  | .flush => false

/-- The item kinds that write or erase (R79 step 6). -/
def ItemKind.writes : ItemKind → Bool
  | .fetch => false
  | .place => true
  | .blank => true
  | .store => true
  | .flush => true

/-- Steps 2 to 6 of the acceptance checks: the first that fails gives its code (R79). -/
def State.earlyRefusal (s : State) (kind : ItemKind) (tag : Byte) (count : Nat) : Option Code :=
  match driveRefusal s.drive.state with
  | some c => some c
  | none =>
    if s.tagInUse tag then some .tagBusy
    else if kind.counted ∧ ¬ (1 ≤ count ∧ count ≤ Config.pieceBlocks) then some .badCount
    else if kind = .blank ∧ (s.drive.facts.map Facts.kind) = some .w then some .mediaKind
    else if kind.writes ∧ s.protectedTab = true then some .writeProtected
    else none

/-- Step 9 and acceptance (R79, R81, R82, R84): an order cannot take a place ahead of a pending lane; the item
takes a place that no lane waits for, and the buffer walks. -/
def State.enqueue (okind tag : Byte) (kind : ItemKind) (extent first : Option Nat) (count : Nat)
    (s : State) : State :=
  if s.placeFree ∧ s.anyPending = false then (s.addItem (s.newItem (.tag tag) kind extent first count 0)).settle
  else s.refuse okind tag .queueFull

/-- The access of a FETCH, PLACE or BLANK order (R26, R39). -/
def orderAccess (akind : AccessKind) (cls tag : Byte) (extent first count : Nat) : Access :=
  { kind := akind, cls := classOf cls, route := .tag tag, extent := extent, first := first,
    last := first + count - 1 }

/-- A violating order or START LANE: the record takes it, the refusal carries the cause set, and what an
overrun removed is walked (R42, R46, R48, R82). -/
def State.refuseViolation (okind tag : Byte) (a : Access) (c : CauseSet) (s : State) : State :=
  let after := (s.recordViolation none a c).answer okind tag .violation (.causes c)
  if s.overruns then after.settle else after

/-- A FETCH, PLACE or BLANK order with its extent, first offset and count (R79). -/
def State.acceptAccess (okind cls tag : Byte) (kind : ItemKind) (akind : AccessKind)
    (extent first count : Nat) (s : State) : State :=
  match s.earlyRefusal kind tag count with
  | some c => s.refuse okind tag c
  | none =>
    let a := orderAccess akind cls tag extent first count
    let c := s.causes a
    if c.any then s.refuseViolation okind tag a c
    else
      let s := s.edgeCheck a
      if beyondUsers s.drive.facts (s.entry extent) a then s.refuse okind tag .beyondMedia
      else s.enqueue okind tag kind (some extent) (some first) count

/-- A FETCH, PLACE or BLANK order as its frame carries it (R166, R170). -/
def State.accessOrder (okind cls tag : Byte) (kind : ItemKind) (akind : AccessKind)
    (params : List Byte) (s : State) : State :=
  s.handOver okind cls tag (decide (params.length = 5)) false fun s =>
    s.acceptAccess okind cls tag kind akind (field params 0 1) (field params 1 2) (field params 3 2)

/-- FETCH (R79, R81). -/
def State.fetchOrder (cls tag : Byte) (params : List Byte) (s : State) : State :=
  s.accessOrder Kind.fetch cls tag .fetch .fetch params

/-- PLACE (R79, R81). -/
def State.placeOrder (cls tag : Byte) (params : List Byte) (s : State) : State :=
  s.accessOrder Kind.place cls tag .place .place params

/-- BLANK (R79, R81). -/
def State.blankOrder (cls tag : Byte) (params : List Byte) (s : State) : State :=
  s.accessOrder Kind.blank cls tag .blank .blank params

/-- STORE EXTENTS or FLUSH LIST: no extent, no offset, count 1 (R34, R70, R79). -/
def State.acceptControl (okind tag : Byte) (kind : ItemKind) (s : State) : State :=
  match s.earlyRefusal kind tag 1 with
  | some c => s.refuse okind tag c
  | none => s.enqueue okind tag kind none none 1

/-- STORE EXTENTS (R34). -/
def State.storeOrder (cls tag : Byte) (params : List Byte) (s : State) : State :=
  s.handOver Kind.storeExtents cls tag (decide (params.length = 0)) true fun s =>
    s.acceptControl Kind.storeExtents tag .store

/-- FLUSH LIST (R70). -/
def State.flushOrder (cls tag : Byte) (params : List Byte) (s : State) : State :=
  s.handOver Kind.flushList cls tag (decide (params.length = 0)) true fun s =>
    s.acceptControl Kind.flushList tag .flush

/-! ### The meanings -/

def execFetch (cls tag : Byte) (params : List Byte) (s : State) : Host.Outcome State Fault Refusal :=
  s.takeFrame (State.fetchOrder cls tag params)

def execPlace (cls tag : Byte) (params : List Byte) (s : State) : Host.Outcome State Fault Refusal :=
  s.takeFrame (State.placeOrder cls tag params)

def execBlank (cls tag : Byte) (params : List Byte) (s : State) : Host.Outcome State Fault Refusal :=
  s.takeFrame (State.blankOrder cls tag params)

def execStoreExtents (cls tag : Byte) (params : List Byte) (s : State) :
    Host.Outcome State Fault Refusal :=
  s.takeFrame (State.storeOrder cls tag params)

def execFlushList (cls tag : Byte) (params : List Byte) (s : State) :
    Host.Outcome State Fault Refusal :=
  s.takeFrame (State.flushOrder cls tag params)

end Sys2Proof.Machine
end

