-- ==== Sys2Proof/Machine/LaneOrders.lean ====
section
/-! DEFINITION. UNLOAD, START LANE, STOP LANE and the lane steps: posting and placing a pending post (R83,
R84, R139 to R142, R146, R156). -/

namespace Sys2Proof.Machine

/-- UNLOAD (R156): taken in either class, refused in EMPTY; the tag waits for the release. -/
def State.unloadOrder (cls tag : Byte) (params : List Byte) (s : State) : State :=
  s.handOver Kind.unload cls tag (decide (params.length = 0)) false fun s =>
    match s.drive.state with
    | .empty => s.refuse Kind.unload tag .noMedia
    | .unloading => s.mapDrive fun d => { d with answers := d.answers ++ [tag] }
    | .spinningUp | .mounting | .ready | .faulted =>
      (s.mapDrive fun d => { d with answers := d.answers ++ [tag] }).startUnload

/-- Step 4 of START LANE: the lane is IDLE or HALTED with no item of its route in the queue and no
outstanding stop (R139). -/
def State.laneStartable (s : State) (n : Nat) : Bool :=
  !(s.lane n).state.runs && decide (s.queuedItems n = 0) && decide ((s.lane n).stops = [])

/-- The accepted START LANE (R140). -/
def State.laneStarts (tag : Byte) (n g : Nat) (cls : OrderClass) (s : State) : State :=
  let d := s.descriptorAt g
  (s.setLane n
    { state := .active, descriptor := g, offset := d.start.toNat, remaining := d.count.toNat,
      nextIndex := 0, completed := 0, pendingPost := none, cls := cls, halt := none,
      stops := (s.lane n).stops }).answer Kind.startLane tag .ok .none

/-- The checks of START LANE in order (R139). -/
def State.startLaneChecked (cls tag : Byte) (n g : Nat) (s : State) : State :=
  if ¬ (n < Config.lanes ∧ g < Config.descriptors) then s.refuse Kind.startLane tag .badCount
  else
    match driveRefusal s.drive.state with
    | some c => s.refuse Kind.startLane tag c
    | none =>
      if s.protectedTab then s.refuse Kind.startLane tag .writeProtected
      else if !s.laneStartable n then s.refuse Kind.startLane tag .laneBusy
      else if !(s.descriptorAt g).startable then s.refuse Kind.startLane tag .badDescriptor
      else
        let a := (s.descriptorAt g).footprint (classOf cls) n
        let c := s.causes a
        if c.any then s.refuseViolation Kind.startLane tag a c
        else if beyondUsers s.drive.facts (s.entry a.extent) a then
          s.refuse Kind.startLane tag .beyondMedia
        else s.laneStarts tag n g (classOf cls)

/-- START LANE (R139, R140). -/
def State.startLaneOrder (cls tag : Byte) (params : List Byte) (s : State) : State :=
  s.handOver Kind.startLane cls tag (decide (params.length = 2)) false fun s =>
    s.startLaneChecked cls tag (field params 0 1) (field params 1 1)

/-- The stop joins the outstanding stops of lane `n` (R146). -/
def State.joinStop (n : Nat) (tag : Byte) (s : State) : State :=
  s.setLane n { s.lane n with stops := (s.lane n).stops ++ [tag] }

/-- The lane becomes IDLE with no halt cause, and the STOP LANE is answered at once (R146). -/
def State.stopAtOnce (n : Nat) (tag : Byte) (s : State) : State :=
  let s := s.setLane n { s.lane n with state := .idle, halt := none }
  s.produce (s.stopAnswer n tag)

/-- A STOP LANE taken while the lane is ACTIVE (R146). -/
def State.stopActive (n : Nat) (tag : Byte) (s : State) : State :=
  let s := s.removeWaiting n
  let s := s.setLane n { s.lane n with pendingPost := none }
  (if s.queuedItems n = 0 then s.stopAtOnce n tag
   else (s.setLane n { s.lane n with state := .draining }).joinStop n tag).settle

/-- STOP LANE (R146). -/
def State.stopLaneOrder (cls tag : Byte) (params : List Byte) (s : State) : State :=
  s.handOver Kind.stopLane cls tag (decide (params.length = 1)) false fun s =>
    let n := field params 0 1
    if ¬ n < Config.lanes then s.refuse Kind.stopLane tag .badCount
    else
      match (s.lane n).state with
      | .active => s.stopActive n tag
      | .draining => s.joinStop n tag
      | .halted => if (s.lane n).stops = [] then s.stopAtOnce n tag else s.joinStop n tag
      | .idle => s.stopAtOnce n tag

/-! ### Posting (R141, R142) -/

/-- The count of the lane's next piece (R141); no piece in mode NONE. -/
def pieceCount (d : Descriptor) (l : Lane) : Nat :=
  match d.mode with
  | .none => 0
  | .run => min Config.pieceBlocks l.remaining
  | .band => d.band.toNat
  | .ring => d.band.toNat

/-- The lane's position after a clean piece of `n` blocks (R141). -/
def Lane.advance (d : Descriptor) (n : Nat) (l : Lane) : Lane :=
  { l with
    offset := l.offset + (if d.mode.banded then d.stride.toNat else n)
    remaining := l.remaining - (if d.mode.banded then 1 else n)
    nextIndex := (l.nextIndex + n) % Config.indexModulus }

/-- An ACTIVE lane may post (R141). -/
def State.mayPost (s : State) (n : Nat) : Bool :=
  decide (n < Config.lanes) && decide ((s.lane n).state = .active) &&
    decide (s.queuedItems n < Config.itemsPerLane) && (s.lane n).pendingPost.isNone &&
    decide (0 < (s.lane n).remaining) && decide ((s.laneDescriptor n).mode ≠ .none)

/-- A clean piece: placed when a place is free and no lane is pending, else the lane's pending post; the
position advances either way (R83, R141, R142). -/
def State.postPiece (n : Nat) (p : Piece) (s : State) : State :=
  let d := s.laneDescriptor n
  let s := s.setLane n ((s.lane n).advance d p.count)
  if s.placeFree ∧ s.anyPending = false then (s.addPiece n p).settle
  else s.setLane n { s.lane n with pendingPost := some p }

/-- The lane forms its next piece, has it checked and posts it (R141, R142, R43). A piece that touches the edge
granule and reaches U halts the lane without an edge event: R28 and R41 put the edge test before the test
against U, R142 passes nothing to the fault record, and the model follows R142 (DESIGN CHOICE, log entry 30). -/
def State.postLane (n : Nat) (s : State) : State :=
  if s.mayPost n then
    let d := s.laneDescriptor n
    let l := s.lane n
    let count := pieceCount d l
    let a : Access := { kind := .lanePost, cls := l.cls, route := .lane n, extent := d.extent.toNat,
                        first := l.offset, last := l.offset + count - 1 }
    let c := s.causes a
    if c.any then
      let after := s.recordViolation (some n) a c
      (if s.overruns then after else after.haltLane true n (.causes c)).settle
    else if beyondUsers s.drive.facts (s.entry a.extent) a then
      (s.haltLane true n .beyondMedia).settle
    else (s.edgeCheck a).postPiece n ⟨a.extent, l.offset, count, l.nextIndex⟩
  else s

/-! ### The meanings -/

def execUnload (cls tag : Byte) (params : List Byte) (s : State) : Host.Outcome State Fault Refusal :=
  s.takeFrame (State.unloadOrder cls tag params)

def execStartLane (cls tag : Byte) (params : List Byte) (s : State) :
    Host.Outcome State Fault Refusal :=
  s.takeFrame (State.startLaneOrder cls tag params)

def execStopLane (cls tag : Byte) (params : List Byte) (s : State) :
    Host.Outcome State Fault Refusal :=
  s.takeFrame (State.stopLaneOrder cls tag params)

/-- LANE_POST: lane `n` posts its next piece when R141 lets it. -/
def execLanePost (n : Nat) (s : State) : Host.Outcome State Fault Refusal :=
  s.unlessHeld (State.postLane n)

/-- PENDING_POST_PLACED: a free place goes to the lowest pending lane, and the buffer walks (R84, R121). The
event that frees a place gives it already (`State.settle`), so in a run this finds nothing due (log entry
13). -/
def execPendingPostPlaced (s : State) : Host.Outcome State Fault Refusal :=
  s.unlessHeld fun s =>
    if s.placeFree ∧ s.anyPending = true then s.placeOnePending.walk.resumeFetch else s

end Sys2Proof.Machine
end

