-- ==== Sys2Proof/Machine/TableOrders.lean ====
section
/-! DEFINITION. The orders answered at once: tables, the fault record, the profile, SHOW STATE and RESTART
(R30 to R33, R53, R54, R72, R135, R136, R174 to R178). -/

namespace Sys2Proof.Machine

/-- Entries applied one after another from number `f` until the first that is held; the table after it and the
number applied (R31, R135). -/
def applyEntries {α : Type} (heldAt : Nat → Bool) : Nat → List α → List α → List α × Nat
  | _, [], table => (table, 0)
  | f, e :: es, table =>
    if heldAt f then (table, 0)
    else
      let after := applyEntries heldAt (f + 1) es (table.set f e)
      (after.1, after.2 + 1)

/-- The code of a load: OK when every entry was applied, IN_USE otherwise (R31, R135). -/
def loadCode (applied k : Nat) : Code := if applied = k then .ok else .inUse

/-- A first entry and count inside a table of `size` entries, with the count 1 or more (R30, R32, R135,
R136). -/
def rangeOk (size f k : Nat) : Bool := decide (1 ≤ k) && decide (k ≤ size) && decide (f + k ≤ size)

/-- LOAD EXTENTS past the link tests (R30, R31). -/
def State.loadExtents (tag : Byte) (f : Nat) (es : List Extent) (s : State) : State :=
  if rangeOk Config.extentEntries f es.length then
    let r := applyEntries s.referenced f es s.extents
    (s.setExtents r.1).answer Kind.loadExtents tag (loadCode r.2 es.length) (.count r.2)
  else s.refuse Kind.loadExtents tag .badCount

/-- LOAD EXTENTS (R30, R31, R166). -/
def State.loadExtentsOrder (cls tag : Byte) (params : List Byte) (s : State) : State :=
  s.handOver Kind.loadExtents cls tag (loadLengthOk 8 params) true fun s =>
    s.loadExtents tag (field params 0 1)
      ((chunks 8 (field params 1 1) (params.drop 2)).map extentOfBytes)

/-- SHOW EXTENTS (R32). -/
def State.showExtentsOrder (cls tag : Byte) (params : List Byte) (s : State) : State :=
  s.handOver Kind.showExtents cls tag (decide (params.length = 2)) false fun s =>
    let f := field params 0 1
    let k := field params 1 1
    if rangeOk Config.extentEntries f k then
      s.answer Kind.showExtents tag .ok (.extents f k ((s.extents.drop f).take k))
    else s.refuse Kind.showExtents tag .badCount

/-- A valid entry with SI or OI set; an entry with V = 0 as it is (R33). -/
def Extent.mark (oi : Bool) (e : Extent) : Extent :=
  if e.v then (if oi then { e with oi := true } else { e with si := true }) else e

/-- MARK ALL (R33). -/
def State.markAllOrder (cls tag : Byte) (params : List Byte) (s : State) : State :=
  s.handOver Kind.markAll cls tag (decide (params.length = 1)) true fun s =>
    (s.setExtents (s.extents.map (Extent.mark ((params.getD 0 0).getLsbD 0)))).answer Kind.markAll tag .ok
      (.count ((s.extents.filter Extent.v).length))

/-- SHOW LIST (R72). -/
def State.showListOrder (cls tag : Byte) (params : List Byte) (s : State) : State :=
  s.handOver Kind.showList cls tag (decide (params.length = 3)) false fun s =>
    let i := field params 0 2
    let k := field params 2 1
    if ¬ (1 ≤ k ∧ k ≤ 64 ∧ i ≤ 1023) then s.refuse Kind.showList tag .badCount
    else if s.list.loaded then
      s.answer Kind.showList tag .ok
        (.list s.list.entries.length s.list.next ((s.drive.facts.map Facts.spares).getD 0)
          ((s.drive.facts.map Facts.users).getD 0) s.list.dirty ((s.list.entries.drop i).take k))
    else s.refuse Kind.showList tag .noMedia

/-- LOAD DESCRIPTORS past the link tests (R135). -/
def State.loadDescriptors (tag : Byte) (g : Nat) (ds : List Descriptor) (s : State) : State :=
  if rangeOk Config.descriptors g ds.length then
    let r := applyEntries s.descriptorHeld g ds s.descriptors
    (s.setDescriptors r.1).answer Kind.loadDescriptors tag (loadCode r.2 ds.length) (.count r.2)
  else s.refuse Kind.loadDescriptors tag .badCount

/-- LOAD DESCRIPTORS (R135, R166). -/
def State.loadDescriptorsOrder (cls tag : Byte) (params : List Byte) (s : State) : State :=
  s.handOver Kind.loadDescriptors cls tag (loadLengthOk 12 params) true fun s =>
    s.loadDescriptors tag (field params 0 1)
      ((chunks 12 (field params 1 1) (params.drop 2)).map descriptorOfBytes)

/-- SHOW DESCRIPTORS (R136). -/
def State.showDescriptorsOrder (cls tag : Byte) (params : List Byte) (s : State) : State :=
  s.handOver Kind.showDescriptors cls tag (decide (params.length = 2)) false fun s =>
    let g := field params 0 1
    let k := field params 1 1
    if rangeOk Config.descriptors g k then
      s.answer Kind.showDescriptors tag .ok (.descriptors g k ((s.descriptors.drop g).take k))
    else s.refuse Kind.showDescriptors tag .badCount

/-- SHOW FAULT (R53). -/
def State.showFaultOrder (cls tag : Byte) (params : List Byte) (s : State) : State :=
  s.handOver Kind.showFault cls tag (decide (params.length = 0)) false fun s =>
    s.answer Kind.showFault tag .ok (.fault s.fault)

/-- CLEAR FAULT: the answer carries the record as it stood just before it was emptied (R54). -/
def State.clearFaultOrder (cls tag : Byte) (params : List Byte) (s : State) : State :=
  s.handOver Kind.clearFault cls tag (decide (params.length = 0)) true fun s =>
    (s.setFault FaultRecord.empty).answer Kind.clearFault tag .ok (.fault s.fault)

/-- The profile after SET PROFILE with its three bytes (R174). -/
def Profile.change (p : Profile) (source verify update : Byte) : Profile :=
  { extentSource := select source .link .cartridge p.extentSource
    verify := select verify true false p.verify
    listUpdate := select update .immediate .deferred p.listUpdate }

/-- The switch raises the write-back request (R175). -/
def State.raisesRequest (s : State) (new : Profile) : Bool :=
  decide (s.profile.listUpdate = .deferred) && decide (new.listUpdate = .immediate) &&
    decide (s.drive.state = .ready) && s.list.loaded && s.list.dirty

/-- SET PROFILE (R174, R175). -/
def State.setProfileOrder (cls tag : Byte) (params : List Byte) (s : State) : State :=
  s.handOver Kind.setProfile cls tag (decide (params.length = 3)) true fun s =>
    let new := s.profile.change (params.getD 0 0) (params.getD 1 0) (params.getD 2 0)
    ((s.mapList fun l => { l with request := l.request || s.raisesRequest new }).setProfile new).answer
      Kind.setProfile tag .ok (.profile new)

/-- The state of every block as SHOW STATE reports it (R176). -/
def State.snapshot (s : State) : Snapshot :=
  { drive := s.drive.state
    mountFault := if s.drive.state = .faulted then s.drive.mountFault else none
    kind := s.drive.facts.map Facts.kind
    tab := s.drive.tab
    users := (s.drive.facts.map Facts.users).getD 0
    spares := (s.drive.facts.map Facts.spares).getD 0
    speed := s.drive.speed
    period := s.drive.period
    bias := s.head.bias
    free := freeCount s.slots
    profile := s.profile
    fault := s.fault.state
    loaded := s.list.loaded
    dirty := s.list.dirty
    listCount := s.list.entries.length
    lanes := laneNumbers.map fun n => ⟨s.lane n, s.queuedItems n⟩
    items := s.queue.map fun it => (it.route, it.kind, it.state) }

/-- SHOW STATE (R176). -/
def State.showStateOrder (cls tag : Byte) (params : List Byte) (s : State) : State :=
  s.handOver Kind.showState cls tag (decide (params.length = 0)) false fun s =>
    s.answer Kind.showState tag .ok (.state s.snapshot)

/-- RESTART (R177, R178). -/
def State.restartOrder (cls tag : Byte) (params : List Byte) (s : State) : State :=
  s.handOver Kind.restart cls tag (decide (params.length = 0)) true fun s =>
    (s.restartAll).answer Kind.restart tag .ok .none

/-! ### The meanings -/

def execLoadExtents (cls tag : Byte) (params : List Byte) (s : State) :
    Host.Outcome State Fault Refusal :=
  s.takeFrame (State.loadExtentsOrder cls tag params)

def execShowExtents (cls tag : Byte) (params : List Byte) (s : State) :
    Host.Outcome State Fault Refusal :=
  s.takeFrame (State.showExtentsOrder cls tag params)

def execMarkAll (cls tag : Byte) (params : List Byte) (s : State) : Host.Outcome State Fault Refusal :=
  s.takeFrame (State.markAllOrder cls tag params)

def execShowList (cls tag : Byte) (params : List Byte) (s : State) : Host.Outcome State Fault Refusal :=
  s.takeFrame (State.showListOrder cls tag params)

def execLoadDescriptors (cls tag : Byte) (params : List Byte) (s : State) :
    Host.Outcome State Fault Refusal :=
  s.takeFrame (State.loadDescriptorsOrder cls tag params)

def execShowDescriptors (cls tag : Byte) (params : List Byte) (s : State) :
    Host.Outcome State Fault Refusal :=
  s.takeFrame (State.showDescriptorsOrder cls tag params)

def execShowFault (cls tag : Byte) (params : List Byte) (s : State) :
    Host.Outcome State Fault Refusal :=
  s.takeFrame (State.showFaultOrder cls tag params)

def execClearFault (cls tag : Byte) (params : List Byte) (s : State) :
    Host.Outcome State Fault Refusal :=
  s.takeFrame (State.clearFaultOrder cls tag params)

def execSetProfile (cls tag : Byte) (params : List Byte) (s : State) :
    Host.Outcome State Fault Refusal :=
  s.takeFrame (State.setProfileOrder cls tag params)

def execShowState (cls tag : Byte) (params : List Byte) (s : State) :
    Host.Outcome State Fault Refusal :=
  s.takeFrame (State.showStateOrder cls tag params)

def execRestart (cls tag : Byte) (params : List Byte) (s : State) : Host.Outcome State Fault Refusal :=
  s.takeFrame (State.restartOrder cls tag params)

end Sys2Proof.Machine
end

