-- ==== Sys2Proof/Machine/Link.lean ====
section
/-! DEFINITION. The receiver and what it delivers: byte arrivals, frames passed on or discarded, unknown orders,
data frames, and the outbound side (R164 to R166, R168). -/

namespace Sys2Proof.Machine

/-- What a byte arrival completes: nothing, or a frame whose assembly is to be checked (R164). -/
abbrev RxEvent := Option (List Byte)

/-- A byte appended to the assembly; as the 1043rd it discards the frame instead (R164). -/
def Receiver.append (r : Receiver) (b : Byte) : Receiver :=
  if r.assembly.length < Config.assemblyTop then ⟨.assembling, r.assembly ++ [b]⟩ else Receiver.hunting

/-- One byte arrival (R164). -/
def Receiver.byte (r : Receiver) (b : Byte) : Receiver × RxEvent :=
  match r.state with
  | .hunting => if b = startByte then (⟨.assembling, []⟩, none) else (r, none)
  | .assembling =>
    if b = endByte then (Receiver.hunting, some r.assembly)
    else if b = startByte then (⟨.assembling, []⟩, none)
    else if b = escapeMark then (⟨.escaped, r.assembly⟩, none)
    else (r.append b, none)
  | .escaped =>
    if b = 0x85#8 then (r.append startByte, none)
    else if b = 0x7A#8 then (r.append endByte, none)
    else if b = 0x1C#8 then (r.append escapeMark, none)
    else if b = startByte then (⟨.assembling, []⟩, none)
    else (Receiver.hunting, none)

/-- Byte arrivals one after another, with the assemblies of the frames they complete (R164). -/
def Receiver.bytes : Receiver → List Byte → Receiver × List (List Byte)
  | r, [] => (r, [])
  | r, b :: bs =>
    let one := r.byte b
    let rest := Receiver.bytes one.1 bs
    (rest.1, one.2.toList ++ rest.2)

/-- The content of an assembly that passes the check of R165: at least 3 bytes and the CRC right. -/
def checkedContent (assembly : List Byte) : Option (List Byte) :=
  let content := assembly.take (assembly.length - 2)
  if 3 ≤ assembly.length ∧
      field assembly (assembly.length - 2) 2 = (crc16 content).toNat then some content
  else none

/-- The command an assembly is passed on as, or `none` when the frame is discarded (R165, R166). -/
def frameOf (assembly : List Byte) : Option Instr := (checkedContent assembly).bind decodeContent

/-- An order whose kind is not in the catalogue is refused UNKNOWN_ORDER (R166). -/
def State.unknownKind (kind tag : Byte) (s : State) : State := s.refuse kind tag .unknownOrder

/-- A data frame with its route, index and data; one whose data is not 1024 bytes is discarded (R165). -/
def State.dataOrder (route : Route) (index : Word16) (d : Block) (s : State) : State :=
  if d.length = 1024 then s.takeData route index d else s

/-- A frame passed on to the block that owns it (R165, R166, R170). Commands that are no frame do not come
this way. -/
def State.passOn (i : Instr) (s : State) : State :=
  match i with
  | .fetch c t p => s.fetchOrder c t p
  | .place c t p => s.placeOrder c t p
  | .blank c t p => s.blankOrder c t p
  | .storeExtents c t p => s.storeOrder c t p
  | .flushList c t p => s.flushOrder c t p
  | .unload c t p => s.unloadOrder c t p
  | .startLane c t p => s.startLaneOrder c t p
  | .stopLane c t p => s.stopLaneOrder c t p
  | .loadExtents c t p => s.loadExtentsOrder c t p
  | .showExtents c t p => s.showExtentsOrder c t p
  | .markAll c t p => s.markAllOrder c t p
  | .showList c t p => s.showListOrder c t p
  | .loadDescriptors c t p => s.loadDescriptorsOrder c t p
  | .showDescriptors c t p => s.showDescriptorsOrder c t p
  | .showFault c t p => s.showFaultOrder c t p
  | .clearFault c t p => s.clearFaultOrder c t p
  | .setProfile c t p => s.setProfileOrder c t p
  | .showState c t p => s.showStateOrder c t p
  | .restart c t p => s.restartOrder c t p
  | .unknownOrder k _ t _ => s.unknownKind k t
  | .dataFrame route index d => s.dataOrder route index d
  | .badFrame _ | .sendBlock | .dataFrameProduced | .frameSent | .sectorIdArrival _ _ _
  | .indexArrival _ | .readDataEvent _ _ _ | .verifyCompareResult _ _ _ | .seekComplete | .biasReady
  | .insertion _ | .ejectButton | .cartridgeLost | .hardwareResetAsserted
  | .hardwareResetReleased _ _ | .seekTimeout | .biasTimeout | .holdTimeout | .spinUpTimeout
  | .dataTimeout | .indexLost | .sectorMissing | .itemTakeUp | .writeBackRequestServed | .lanePost _
  | .pendingPostPlaced | .unloadCompletion | .abort _ => s

/-- Frames passed on one at a time in the order their end bytes arrived; a discarded one changes nothing
(R165). -/
def State.passOnAll : List (List Byte) → State → State
  | [], s => s
  | a :: as, s =>
    match frameOf a with
    | none => s.passOnAll as
    | some i => (s.passOn i).passOnAll as

/-- Bytes arrive on the link: the receiver takes them and passes on the frames they complete (R164, R165). -/
def State.receive (wire : List Byte) (s : State) : State :=
  let r := s.receiver.bytes wire
  (s.setReceiver r.1).passOnAll r.2

/-! ### The meanings -/

/-- UNKNOWN_ORDER: an order kind that the catalogue holds is not unknown, and its order is passed on as the
order it is (R166). -/
def execUnknownOrder (kind cls tag : Byte) (params : List Byte) (s : State) :
    Host.Outcome State Fault Refusal :=
  s.takeFrame fun s => s.passOn (orderOf kind cls tag params)

/-- BAD_FRAME: the bytes of a frame that is discarded at its end byte without report (R165, R166). -/
def execBadFrame (wire : List Byte) (s : State) : Host.Outcome State Fault Refusal :=
  s.unlessHeld (State.receive wire)

/-- DATA_FRAME (R124 to R126). -/
def execDataFrame (route : Route) (index : Word16) (d : Block) (s : State) :
    Host.Outcome State Fault Refusal :=
  s.takeFrame (State.dataOrder route index d)

/-- ABORT: bytes that make the receiver discard a partial frame without report (R164). -/
def execAbort (wire : List Byte) (s : State) : Host.Outcome State Fault Refusal :=
  s.unlessHeld fun s => s.receive wire

/-- SEND_BLOCK (R129, R168). -/
def execSendBlock (s : State) : Host.Outcome State Fault Refusal := s.unlessHeld State.beginSend

/-- DATA_FRAME_PRODUCED (R129). -/
def execDataFrameProduced (s : State) : Host.Outcome State Fault Refusal :=
  s.unlessHeld State.dataProduced

/-- FRAME_SENT (R163, R168). -/
def execFrameSent (s : State) : Host.Outcome State Fault Refusal := s.unlessHeld State.sendFrame

end Sys2Proof.Machine
end

