-- ==== Sys2Proof/Machine/Events.lean ====
section
/-! DEFINITION. The meanings of the mechanism's events, the expiries, the reset line and the head's own steps
(R69, R71, R86, R101 to R112, R127, R153 to R160, R179). -/

namespace Sys2Proof.Machine

/-- The work of the item just taken up begins (R86, R97): its first run, the STORE image's write, or the FLUSH
item's write-back when the list is dirty; a FLUSH that finds it clean ends at once (R71). -/
def State.beginItem (it : WorkItem) (s : State) : State :=
  match it.kind with
  | .fetch | .place | .blank => s.formRun
  | .store => s.startStore
  | .flush =>
    if s.list.dirty then s.startWriteBack
    else (s.mapFront fun it => { it with blocksDone := 1 }).endItem .ok .none

/-- The head takes up the front item: WAITING, the head free, and no write-back request to serve first (R69,
R86). -/
def State.takeUp (s : State) : State :=
  match s.queue with
  | [] => s
  | it :: rest =>
    if it.state = .waiting ∧ s.head.task = .none ∧ s.list.request = false then
      ((s.setQueue ({ it with state := .inService } :: rest)).mapHead fun h =>
        { h with task := .item }).beginItem it
    else s

/-- The head serves a raised write-back request when it is free: the mark is cleared, and a dirty list is
written back (R69, R97). -/
def State.serveRequest (s : State) : State :=
  if s.list.request ∧ s.head.task = .none then
    let s' := s.mapList fun l => { l with request := false }
    if s.list.dirty then
      (s'.mapHead fun h => { h with task := .writeBack .request }).startWriteBack
    else s'
  else s

/-! ### The meanings -/

/-- SECTOR_ID_ARRIVAL (R102, R103, R106). -/
def execSectorIdArrival (track sector : Nat) (blankMark : Bool) (s : State) :
    Host.Outcome State Fault Refusal :=
  s.unlessHeld (State.sectorId track sector blankMark)

/-- INDEX_ARRIVAL (R104, R159 to R161). -/
def execIndexArrival (elapsed : Nat) (s : State) : Host.Outcome State Fault Refusal :=
  s.unlessHeld (State.indexArrives elapsed)

/-- READ_DATA_EVENT (R13, R112, R115). -/
def execReadDataEvent (track sector : Nat) (result : ReadResult) (s : State) :
    Host.Outcome State Fault Refusal :=
  s.unlessHeld (State.readData track sector result)

/-- VERIFY_COMPARE_RESULT (R14, R108). -/
def execVerifyCompareResult (track sector : Nat) (isMatch : Bool) (s : State) :
    Host.Outcome State Fault Refusal :=
  s.unlessHeld (State.verifyResult track sector isMatch)

/-- SEEK_COMPLETE (R101). -/
def execSeekComplete (s : State) : Host.Outcome State Fault Refusal := s.unlessHeld State.seekArrives

/-- BIAS_READY (R105). -/
def execBiasReady (s : State) : Host.Outcome State Fault Refusal := s.unlessHeld State.biasArrives

/-- INSERTION (R153). -/
def execInsertion (tab : Bool) (s : State) : Host.Outcome State Fault Refusal :=
  s.unlessHeld (State.insert tab)

/-- EJECT_BUTTON: an unload starts but in EMPTY and UNLOADING, where it is passed over (R156). -/
def execEjectButton (s : State) : Host.Outcome State Fault Refusal :=
  s.unlessHeld fun s =>
    if s.drive.state = .empty ∨ s.drive.state = .unloading then s else s.startUnload

/-- CARTRIDGE_LOST (R93, R158). -/
def execCartridgeLost (s : State) : Host.Outcome State Fault Refusal :=
  s.unlessHeld State.loseCartridge

/-- HARDWARE_RESET_ASSERTED (R179). -/
def execHardwareResetAsserted (s : State) : Host.Outcome State Fault Refusal := .next s.holdReset

/-- HARDWARE_RESET_RELEASED (R173, R179). -/
def execHardwareResetReleased (straps : Straps) (cartridge : Option Bool) (s : State) :
    Host.Outcome State Fault Refusal :=
  .next (s.releaseReset straps cartridge)

/-- SEEK_TIMEOUT (R101). -/
def execSeekTimeout (s : State) : Host.Outcome State Fault Refusal := s.unlessHeld State.seekExpires

/-- BIAS_TIMEOUT (R105). -/
def execBiasTimeout (s : State) : Host.Outcome State Fault Refusal := s.unlessHeld State.biasExpires

/-- HOLD_TIMEOUT (R106). -/
def execHoldTimeout (s : State) : Host.Outcome State Fault Refusal := s.unlessHeld State.holdExpires

/-- SPIN_UP_TIMEOUT (R153). -/
def execSpinUpTimeout (s : State) : Host.Outcome State Fault Refusal :=
  s.unlessHeld State.spinUpExpires

/-- DATA_TIMEOUT (R127). -/
def execDataTimeout (s : State) : Host.Outcome State Fault Refusal := s.unlessHeld State.dataExpires

/-- INDEX_LOST (R159). -/
def execIndexLost (s : State) : Host.Outcome State Fault Refusal := s.unlessHeld State.indexLoss

/-- SECTOR_MISSING (R104). -/
def execSectorMissing (s : State) : Host.Outcome State Fault Refusal :=
  s.unlessHeld State.missingEnds

/-- ITEM_TAKE_UP (R86). -/
def execItemTakeUp (s : State) : Host.Outcome State Fault Refusal := s.unlessHeld State.takeUp

/-- WRITE_BACK_REQUEST_SERVED (R69). -/
def execWriteBackRequestServed (s : State) : Host.Outcome State Fault Refusal :=
  s.unlessHeld State.serveRequest

/-- UNLOAD_COMPLETION (R157). -/
def execUnloadCompletion (s : State) : Host.Outcome State Fault Refusal :=
  s.unlessHeld State.completeUnload

end Sys2Proof.Machine
end

