-- ==== Sys2Proof/Machine/Clock.lean ====
section
/-! DEFINITION. What a microsecond does when no command waits: the running counters and timers rise, and one
that reaches its limit expires (R101, R105, R106, R127, R153, R159). -/

namespace Sys2Proof.Machine

/-- A running timer one microsecond later. -/
def runTimer (t : Option Nat) : Option Nat := t.map (· + 1)

/-- A timer has reached its limit. -/
def atLimit (limit : Nat) (t : Option Nat) : Bool :=
  match t with
  | none => false
  | some n => decide (limit ≤ n)

/-- The counters and timers one microsecond later; the revolution counter counts while the spindle is ON and
stands below its last value. -/
def State.elapse (s : State) : State :=
  ((s.mapDrive fun d =>
    { d with
      spinUp := runTimer d.spinUp
      counter := if d.spindle ∧ d.counter + 1 < Config.counterTop then d.counter + 1
        else d.counter }).mapHead fun h =>
    { h with
      seekTimer := runTimer h.seekTimer
      biasTimer := runTimer h.biasTimer
      holdTimer := runTimer h.holdTimer }).setDataTimer (runTimer s.dataTimer)

/-- A timer that has reached its limit expires by the effect of its command. -/
def State.expire (due : Bool) (effect : State → State) (s : State) : State :=
  if due then effect s else s

/-- One microsecond without a command. The index is lost when the counter would reach 65,535. -/
def State.tick (s : State) : State :=
  if s.held then s
  else
    let full := s.drive.spindle && decide (s.drive.counter + 1 = Config.counterTop)
    let s := s.elapse
    let s := s.expire (atLimit Config.spinUpTime s.drive.spinUp) State.spinUpExpires
    let s := s.expire (atLimit Config.seekTime s.head.seekTimer) State.seekExpires
    let s := s.expire (atLimit Config.biasTime s.head.biasTimer) State.biasExpires
    let s := s.expire (atLimit Config.holdTime s.head.holdTimer) State.holdExpires
    let s := s.expire (atLimit Config.dataTime s.dataTimer) State.dataExpires
    s.expire full State.indexLoss

end Sys2Proof.Machine
end

