-- ==== Sys2Proof/Machine/Dispatch.lean ====
section
/-! DEFINITION. The dispatch of a command to its meaning, one arm per constructor. -/

namespace Sys2Proof.Machine

def exec (i : Instr) (s : State) : Host.Outcome State Fault Refusal :=
  match i with
  | .fetch cls tag params => Sys2Proof.Machine.execFetch cls tag params s
  | .place cls tag params => Sys2Proof.Machine.execPlace cls tag params s
  | .blank cls tag params => Sys2Proof.Machine.execBlank cls tag params s
  | .storeExtents cls tag params => Sys2Proof.Machine.execStoreExtents cls tag params s
  | .flushList cls tag params => Sys2Proof.Machine.execFlushList cls tag params s
  | .unload cls tag params => Sys2Proof.Machine.execUnload cls tag params s
  | .startLane cls tag params => Sys2Proof.Machine.execStartLane cls tag params s
  | .stopLane cls tag params => Sys2Proof.Machine.execStopLane cls tag params s
  | .loadExtents cls tag params => Sys2Proof.Machine.execLoadExtents cls tag params s
  | .showExtents cls tag params => Sys2Proof.Machine.execShowExtents cls tag params s
  | .markAll cls tag params => Sys2Proof.Machine.execMarkAll cls tag params s
  | .showList cls tag params => Sys2Proof.Machine.execShowList cls tag params s
  | .loadDescriptors cls tag params => Sys2Proof.Machine.execLoadDescriptors cls tag params s
  | .showDescriptors cls tag params => Sys2Proof.Machine.execShowDescriptors cls tag params s
  | .showFault cls tag params => Sys2Proof.Machine.execShowFault cls tag params s
  | .clearFault cls tag params => Sys2Proof.Machine.execClearFault cls tag params s
  | .setProfile cls tag params => Sys2Proof.Machine.execSetProfile cls tag params s
  | .showState cls tag params => Sys2Proof.Machine.execShowState cls tag params s
  | .restart cls tag params => Sys2Proof.Machine.execRestart cls tag params s
  | .unknownOrder kind cls tag params => Sys2Proof.Machine.execUnknownOrder kind cls tag params s
  | .badFrame wire => Sys2Proof.Machine.execBadFrame wire s
  | .dataFrame route index block => Sys2Proof.Machine.execDataFrame route index block s
  | .sendBlock => Sys2Proof.Machine.execSendBlock s
  | .dataFrameProduced => Sys2Proof.Machine.execDataFrameProduced s
  | .frameSent => Sys2Proof.Machine.execFrameSent s
  | .sectorIdArrival track sector blankMark => Sys2Proof.Machine.execSectorIdArrival track sector blankMark s
  | .indexArrival elapsed => Sys2Proof.Machine.execIndexArrival elapsed s
  | .readDataEvent track sector result => Sys2Proof.Machine.execReadDataEvent track sector result s
  | .verifyCompareResult track sector isMatch => Sys2Proof.Machine.execVerifyCompareResult track sector isMatch s
  | .seekComplete => Sys2Proof.Machine.execSeekComplete s
  | .biasReady => Sys2Proof.Machine.execBiasReady s
  | .insertion tab => Sys2Proof.Machine.execInsertion tab s
  | .ejectButton => Sys2Proof.Machine.execEjectButton s
  | .cartridgeLost => Sys2Proof.Machine.execCartridgeLost s
  | .hardwareResetAsserted => Sys2Proof.Machine.execHardwareResetAsserted s
  | .hardwareResetReleased straps cartridge => Sys2Proof.Machine.execHardwareResetReleased straps cartridge s
  | .seekTimeout => Sys2Proof.Machine.execSeekTimeout s
  | .biasTimeout => Sys2Proof.Machine.execBiasTimeout s
  | .holdTimeout => Sys2Proof.Machine.execHoldTimeout s
  | .spinUpTimeout => Sys2Proof.Machine.execSpinUpTimeout s
  | .dataTimeout => Sys2Proof.Machine.execDataTimeout s
  | .indexLost => Sys2Proof.Machine.execIndexLost s
  | .sectorMissing => Sys2Proof.Machine.execSectorMissing s
  | .itemTakeUp => Sys2Proof.Machine.execItemTakeUp s
  | .writeBackRequestServed => Sys2Proof.Machine.execWriteBackRequestServed s
  | .lanePost lane => Sys2Proof.Machine.execLanePost lane s
  | .pendingPostPlaced => Sys2Proof.Machine.execPendingPostPlaced s
  | .unloadCompletion => Sys2Proof.Machine.execUnloadCompletion s
  | .abort wire => Sys2Proof.Machine.execAbort wire s

end Sys2Proof.Machine
end

