-- ==== Sys2Proof/WellFormed.lean ====
section
/-! DEFINITION. Which commands can arrive: the ranges the manual gives a command's operands. A frame that
arrives whole fits the content limit (R163), a command that says what the receiver does with bytes is one
whose bytes do that (R164, R165), and an event's operands lie in the ranges of chapter 1 and chapter 9.
Nothing in the machine rests on these checks. -/

namespace Sys2Proof

open Sys2Proof.Machine

/-- The parameters of an order that arrived in one frame: 1040 bytes of content less the header (R163,
R166). -/
def paramsFit (params : List Byte) : Bool := decide (params.length ≤ Config.parameterTop)

/-- The bytes start with a start byte (R163). -/
def startsFrame (wire : List Byte) : Bool := decide (wire.head? = some startByte)

/-- From HUNTING, the bytes complete exactly one assembly, which is discarded at its end byte (R165, R166). -/
def isBadFrame (wire : List Byte) : Bool :=
  startsFrame wire && decide (wire.getLast? = some endByte) &&
    (match Receiver.bytes Receiver.hunting wire with
    | (r, [assembly]) => decide (r = Receiver.hunting) && decide (frameOf assembly = none)
    | (_, _) => false)

/-- From HUNTING, the bytes complete no assembly and leave the receiver HUNTING: an abort, a badly escaped
byte or an overlong frame (R164). -/
def isAbort (wire : List Byte) : Bool :=
  startsFrame wire && decide (Receiver.bytes Receiver.hunting wire = (Receiver.hunting, []))

/-- A route as a frame carries it: one byte of number (R165, R172). -/
def routeFits : Route → Bool
  | .tag _ => true
  | .lane n => decide (n ≤ 255)

/-- A read data event's result: 1024 bytes with 0 to 16 corrected symbols (R13). -/
def resultFits : ReadResult → Bool
  | .delivered data corrected => decide (data.length = 1024) && decide (corrected ≤ 16)
  | .uncorrectable => true

/-- A track number is two bytes and a track has at most 40 sectors (R7, R8, R12). -/
def sectorFits (track sector : Nat) : Bool := decide (track ≤ 65535) && decide (sector ≤ 39)

/-- The checks on a command's operands. -/
def WellFormed (i : Instr) : Bool :=
  match i with
  | .fetch _ _ params => paramsFit params
  | .place _ _ params => paramsFit params
  | .blank _ _ params => paramsFit params
  | .storeExtents _ _ params => paramsFit params
  | .flushList _ _ params => paramsFit params
  | .unload _ _ params => paramsFit params
  | .startLane _ _ params => paramsFit params
  | .stopLane _ _ params => paramsFit params
  | .loadExtents _ _ params => paramsFit params
  | .showExtents _ _ params => paramsFit params
  | .markAll _ _ params => paramsFit params
  | .showList _ _ params => paramsFit params
  | .loadDescriptors _ _ params => paramsFit params
  | .showDescriptors _ _ params => paramsFit params
  | .showFault _ _ params => paramsFit params
  | .clearFault _ _ params => paramsFit params
  | .setProfile _ _ params => paramsFit params
  | .showState _ _ params => paramsFit params
  | .restart _ _ params => paramsFit params
  | .unknownOrder kind _ _ params => !(catalogue.contains kind) && paramsFit params
  | .badFrame wire => isBadFrame wire
  | .dataFrame route _ data => routeFits route && decide (data.length = 1024)
  | .sendBlock => true
  | .dataFrameProduced => true
  | .frameSent => true
  | .sectorIdArrival track sector _ => sectorFits track sector
  | .indexArrival elapsed => decide (elapsed < Config.counterTop)
  | .readDataEvent track sector result => sectorFits track sector && resultFits result
  | .verifyCompareResult track sector _ => sectorFits track sector
  | .seekComplete => true
  | .biasReady => true
  | .insertion _ => true
  | .ejectButton => true
  | .cartridgeLost => true
  | .hardwareResetAsserted => true
  | .hardwareResetReleased _ _ => true
  | .seekTimeout => true
  | .biasTimeout => true
  | .holdTimeout => true
  | .spinUpTimeout => true
  | .dataTimeout => true
  | .indexLost => true
  | .sectorMissing => true
  | .itemTakeUp => true
  | .writeBackRequestServed => true
  | .lanePost n => decide (n < Config.lanes)
  | .pendingPostPlaced => true
  | .unloadCompletion => true
  | .abort wire => isAbort wire

end Sys2Proof
end

