-- ==== Sys2Proof/Safety.lean ====
section
/-! DEFINITION. What a safe run keeps, in the terms the statements use: the laws of the fault record, the work
queue, the replacement list and the tables, the outcome of the link tests as the order catalogue gives it, and
which groups of state each command may change. -/

namespace Sys2Proof.Safety

open Sys2Proof.Machine

/-! ### Laws of the state -/

/-- R45: an EMPTY record has every field 0; a held one holds one of the six causes or EDGE, so OVERRUN never
stands alone. -/
def FaultLaw (r : FaultRecord) : Prop :=
  match r.captured with
  | none => r = FaultRecord.empty
  | some _ => r.causes.any = true ∨ r.edge = true

/-- R78: at most 8 items, and only the front one can be in service or DELIVERING. -/
def QueueLaw (q : List WorkItem) : Prop :=
  q.length ≤ 8 ∧ ∀ it ∈ q.tail, it.state = .waiting

/-- R83, R84: a lane waits for a place only while it is ACTIVE. -/
def PendingLaw (s : State) : Prop :=
  ∀ n < 4, (s.lane n).pendingPost ≠ none → (s.lane n).state = .active

/-- R84, R137, R146, R147: a lane waits for a place only while it is ACTIVE and none is free, outstanding stops
stand only on a DRAINING or HALTED lane, and the handles of the queued items are distinct and used up. -/
def WaitingLaw (s : State) : Prop :=
  PendingLaw s ∧ (s.queue.length < 8 → ∀ n < 4, (s.lane n).pendingPost = none) ∧
    (∀ n < 4, (s.lane n).stops ≠ [] → (s.lane n).state = .draining ∨ (s.lane n).state = .halted) ∧
    (s.queue.map WorkItem.id).Nodup ∧ ∀ it ∈ s.queue, it.id < s.nextId

/-- R57, R58: at most 1024 entries, sources strictly ascending and below U, distinct spares, each below the
next-spare index, which is at most S. -/
def ListLaw (users spares : Nat) (l : ReplacementList) : Prop :=
  l.entries.length ≤ 1024 ∧ l.entries.Pairwise (fun a b => a.source < b.source) ∧
    (∀ e ∈ l.entries, e.source < users) ∧ (l.entries.map ListEntry.spare).Nodup ∧
    (∀ e ∈ l.entries, e.spare < l.next) ∧ l.next ≤ spares

/-- R17, R119, R133, R137: the tables keep their sizes. -/
def ShapeLaw (s : State) : Prop :=
  s.extents.length = 48 ∧ s.slots.length = 32 ∧ s.descriptors.length = 32 ∧ s.lanes.length = 4

/-- R4, R8: a zone table that tiles the zoned area from track 4 on, each zone with tracks and with sectors. -/
def ZonesTile (first : Nat) : List Zone → Prop
  | [] => True
  | z :: zs => z.first = first ∧ 0 < z.tracks ∧ 0 < z.spt ∧ ZonesTile (z.first + z.tracks) zs

/-- The PSA of a track and sector by the numbering of R4, in the zones from PSA `start` on. -/
def psaOf (start : Nat) : List Zone → Nat → Nat → Option Nat
  | [], _, _ => none
  | z :: zs, t, sec =>
    if z.first ≤ t ∧ t < z.first + z.tracks ∧ sec < z.spt then some (start + (t - z.first) * z.spt + sec)
    else psaOf (start + z.tracks * z.spt) zs t sec

/-! ### The link tests (R166, R170) -/

/-- The parts of an order frame: kind, class byte, tag and parameters. -/
def orderParts : Instr → Option (Byte × Byte × Byte × List Byte)
  | .fetch c t p => some (0x01#8, c, t, p)
  | .place c t p => some (0x02#8, c, t, p)
  | .blank c t p => some (0x03#8, c, t, p)
  | .unload c t p => some (0x10#8, c, t, p)
  | .startLane c t p => some (0x11#8, c, t, p)
  | .stopLane c t p => some (0x12#8, c, t, p)
  | .loadExtents c t p => some (0x20#8, c, t, p)
  | .showExtents c t p => some (0x21#8, c, t, p)
  | .markAll c t p => some (0x22#8, c, t, p)
  | .storeExtents c t p => some (0x23#8, c, t, p)
  | .flushList c t p => some (0x30#8, c, t, p)
  | .showList c t p => some (0x31#8, c, t, p)
  | .loadDescriptors c t p => some (0x40#8, c, t, p)
  | .showDescriptors c t p => some (0x41#8, c, t, p)
  | .showFault c t p => some (0x50#8, c, t, p)
  | .clearFault c t p => some (0x51#8, c, t, p)
  | .setProfile c t p => some (0x60#8, c, t, p)
  | .showState c t p => some (0x61#8, c, t, p)
  | .restart c t p => some (0x62#8, c, t, p)
  | .unknownOrder _ _ _ _ | .badFrame _ | .dataFrame _ _ _ | .sendBlock | .dataFrameProduced
  | .frameSent | .sectorIdArrival _ _ _ | .indexArrival _ | .readDataEvent _ _ _
  | .verifyCompareResult _ _ _ | .seekComplete | .biasReady | .insertion _ | .ejectButton
  | .cartridgeLost | .hardwareResetAsserted | .hardwareResetReleased _ _ | .seekTimeout
  | .biasTimeout | .holdTimeout | .spinUpTimeout | .dataTimeout | .indexLost | .sectorMissing
  | .itemTakeUp | .writeBackRequestServed | .lanePost _ | .pendingPostPlaced | .unloadCompletion
  | .abort _ => none

/-- The parameter bytes of a loading order with entries of `n` bytes: the length its own count k asks for. -/
def loadLength (n : Nat) (p : List Byte) : Option Nat :=
  match p with
  | _ :: k :: _ => some (2 + n * k.toNat)
  | _ => none

/-- The catalogue's parameter length for a kind, `none` where the order carries no k (R166 test 2, R170). -/
def catalogueLength (kind : Byte) (p : List Byte) : Option Nat :=
  match kind.toNat with
  | 0x01 | 0x02 | 0x03 => some 5
  | 0x11 | 0x21 | 0x41 => some 2
  | 0x12 | 0x22 => some 1
  | 0x31 | 0x60 => some 3
  | 0x20 => loadLength 8 p
  | 0x40 => loadLength 12 p
  | _ => some 0

/-- The catalogue's service-class kinds (R170). -/
def serviceKind (kind : Byte) : Bool :=
  [0x20, 0x22, 0x23, 0x30, 0x40, 0x51, 0x60, 0x62].contains kind.toNat

/-! ### Which groups of state a command may change -/

/-- A set of groups of state: `true` where a command may change the group. `queue` covers the items with the
handle counter, `head` covers the Head Sequencer with the data timeout it starts. -/
structure Footprint where
  drive : Bool := false
  profile : Bool := false
  extents : Bool := false
  fault : Bool := false
  list : Bool := false
  queue : Bool := false
  head : Bool := false
  slots : Bool := false
  descriptors : Bool := false
  lanes : Bool := false
  receiver : Bool := false
  outbound : Bool := false
  line : Bool := false
  port : Bool := false
  deriving DecidableEq, Repr

/-- Every group outside the footprint is the same in both states, and so are the reset line and the waiting
commands. -/
def SameOutside (f : Footprint) (s t : State) : Prop :=
  (f.drive = false → t.drive = s.drive) ∧ (f.profile = false → t.profile = s.profile) ∧
    (f.extents = false → t.extents = s.extents) ∧ (f.fault = false → t.fault = s.fault) ∧
    (f.list = false → t.list = s.list) ∧
    (f.queue = false → t.queue = s.queue ∧ t.nextId = s.nextId) ∧
    (f.head = false → t.head = s.head ∧ t.dataTimer = s.dataTimer) ∧
    (f.slots = false → t.slots = s.slots) ∧
    (f.descriptors = false → t.descriptors = s.descriptors) ∧
    (f.lanes = false → t.lanes = s.lanes) ∧ (f.receiver = false → t.receiver = s.receiver) ∧
    (f.outbound = false → t.outbound = s.outbound) ∧ (f.line = false → t.line = s.line) ∧
    (f.port = false → t.port = s.port) ∧ t.held = s.held ∧ t.pending = s.pending

/-- An order that only answers. -/
def answering : Footprint := { receiver := true, outbound := true }

/-- What the walk and the taking up of a freed slot may change (R100, R121). -/
def walking : Footprint :=
  { queue := true, head := true, slots := true, lanes := true, outbound := true, port := true }

/-- What the end of a head's task by a rule may change (R113, R115, R116). -/
def ending : Footprint :=
  { drive := true, extents := true, queue := true, head := true, slots := true, lanes := true,
    outbound := true, port := true }

/-- What a result of the Media Channel may change: the end of a task, with the list by an allocation or a
mount, and the fault record by a link that a finished lane item follows. -/
def resulting : Footprint := { ending with fault := true, list := true }

/-- The groups each command may change. No command but SET PROFILE and the release of reset changes the
profile; none but LOAD DESCRIPTORS the descriptors. -/
def touches : Instr → Footprint
  | .fetch _ _ _ | .place _ _ _ | .blank _ _ _ | .startLane _ _ _ =>
    { walking with fault := true, receiver := true }
  | .storeExtents _ _ _ | .flushList _ _ _ | .stopLane _ _ _ => { walking with receiver := true }
  | .unload _ _ _ => { walking with drive := true, receiver := true }
  | .loadExtents _ _ _ | .markAll _ _ _ => { answering with extents := true }
  | .showExtents _ _ _ | .showList _ _ _ | .showDescriptors _ _ _ | .showFault _ _ _
  | .showState _ _ _ | .unknownOrder _ _ _ _ => answering
  | .loadDescriptors _ _ _ => { answering with descriptors := true }
  | .clearFault _ _ _ => { answering with fault := true }
  | .setProfile _ _ _ => { answering with profile := true, list := true }
  | .restart _ _ _ =>
    { walking with drive := true, fault := true, list := true, receiver := true }
  | .badFrame _ | .abort _ => { receiver := true }
  | .dataFrame _ _ _ => { walking with receiver := true }
  | .sendBlock => { slots := true }
  | .dataFrameProduced => walking
  | .frameSent => { outbound := true, line := true }
  | .sectorIdArrival _ _ _ | .readDataEvent _ _ _ | .verifyCompareResult _ _ _ => resulting
  | .indexArrival _ | .indexLost | .seekTimeout | .biasTimeout | .holdTimeout | .sectorMissing =>
    ending
  | .seekComplete => { head := true, port := true }
  | .biasReady => { head := true }
  | .insertion _ => { drive := true, port := true }
  | .spinUpTimeout => { drive := true, head := true, outbound := true, port := true }
  | .ejectButton => { walking with drive := true }
  | .cartridgeLost => { walking with drive := true, list := true }
  | .dataTimeout | .pendingPostPlaced => walking
  | .itemTakeUp | .lanePost _ => { walking with fault := true }
  | .writeBackRequestServed => { list := true, head := true, port := true }
  | .unloadCompletion =>
    { drive := true, list := true, head := true, outbound := true, port := true }
  | .hardwareResetAsserted | .hardwareResetReleased _ _ =>
    { drive := true, profile := true, extents := true, fault := true, list := true, queue := true,
      head := true, slots := true, descriptors := true, lanes := true, receiver := true,
      outbound := true, line := true, port := true }

/-! ### Words of the statements -/

/-- A work item without the count of blocks that have been given slots, which a walk raises (R121). -/
def bareItem (it : WorkItem) : WorkItem := { it with given := 0 }

/-- Every frame is a CREDIT (R123). -/
def CreditsOnly (fs : List Frame) : Prop := ∀ f ∈ fs, ∃ route n, f = Frame.credit route n

/-- The tag is in use: a queued item or an outstanding stop carries it (R80). -/
def TagHeld (s : State) (tag : Byte) : Prop :=
  (∃ it ∈ s.queue, it.route = .tag tag) ∨ ∃ l ∈ s.lanes, tag ∈ l.stops

/-- An extent entry is referenced: a queued item names it, or the current descriptor of a lane that is ACTIVE
or DRAINING (R19). -/
def Referenced (s : State) (e : Nat) : Prop :=
  (∃ it ∈ s.queue, it.extent = some e) ∨
    ∃ l ∈ s.lanes, (l.state = .active ∨ l.state = .draining) ∧
      (s.descriptorAt l.descriptor).extent.toNat = e

/-- A descriptor is held against loading: the current descriptor of a lane that is ACTIVE, DRAINING or HALTED
(R135). -/
def DescriptorHeld (s : State) (g : Nat) : Prop :=
  ∃ l ∈ s.lanes, (l.state = .active ∨ l.state = .draining ∨ l.state = .halted) ∧ l.descriptor = g

/-- The order that becomes an item of a kind (R79). -/
def mediaOrder (k : ItemKind) (c tag : Byte) (p : List Byte) : Instr :=
  match k with
  | .fetch => .fetch c tag p
  | .place => .place c tag p
  | .blank => .blank c tag p
  | .store => .storeExtents c tag p
  | .flush => .flushList c tag p

/-- Its order kind (R170). -/
def mediaOrderKind : ItemKind → Byte
  | .fetch => 0x01#8
  | .place => 0x02#8
  | .blank => 0x03#8
  | .store => 0x23#8
  | .flush => 0x30#8

/-- The access kind of FETCH, PLACE and BLANK (R39). -/
def accessKind : ItemKind → AccessKind
  | .fetch => .fetch
  | .place => .place
  | .blank => .blank
  | .store => .fetch
  | .flush => .fetch

/-- The kinds that name an extent (R77). -/
def namesExtent : ItemKind → Bool
  | .fetch => true
  | .place => true
  | .blank => true
  | .store => false
  | .flush => false

/-- The order passes the Link Interface: five parameter bytes, or none and service class (R166, R170). -/
def LinkPasses (k : ItemKind) (c : Byte) (p : List Byte) : Prop :=
  if namesExtent k then p.length = 5 else p = [] ∧ c.getLsbD 0 = true

/-- The count of the order: bytes 3 and 4 of its parameters, 1 for STORE and FLUSH (R170, R81). -/
def orderCount (k : ItemKind) (p : List Byte) : Nat := if namesExtent k then field p 3 2 else 1

/-- Steps 2 to 6 of R79 pass. -/
def EarlyPasses (s : State) (k : ItemKind) (tag : Byte) (p : List Byte) : Prop :=
  s.drive.state = .ready ∧ ¬ TagHeld s tag ∧ 1 ≤ orderCount k p ∧ orderCount k p ≤ 256 ∧
    (k = .blank → s.drive.facts.map Facts.kind ≠ some .w) ∧
    (k ≠ .fetch → s.drive.tab ≠ some true)

/-- The access of an order with five parameter bytes: extent, first offset, count (R26, R39, R170). -/
def accessOf (k : ItemKind) (c tag : Byte) (p : List Byte) : Access :=
  { kind := accessKind k, cls := if c.getLsbD 0 then .service else .ordinary, route := .tag tag,
    extent := field p 0 1, first := field p 1 2, last := field p 1 2 + field p 3 2 - 1 }

/-- The part has taken a whole frame: the receiver is HUNTING with its assembly empty (R164). -/
def taken (s : State) : State := s.setReceiver ⟨.hunting, []⟩

/-- A report is the only thing produced. -/
def reports (s : State) (fs : List Frame) : State := s.setOutbound (s.outbound ++ fs)

/-- The bias requirement of the pass in hand is met, or it has none (R105). -/
def BiasMet (s : State) : Prop := s.passBias = none ∨ s.passBias = some s.head.bias

/-! ### The walk -/

/-- How many blocks of an item have no slot yet (R120). -/
def wantedSlots (it : WorkItem) : Nat :=
  if (it.kind = .fetch ∨ it.kind = .place) ∧ it.ended = none then it.count - it.given else 0

/-- How many slots the walk gives each item of a queue, front first, with `free` slots FREE and `behind` held
behind the front item: it ends at the first item that it leaves with slotless blocks (R121). -/
def walkShares (frontId : Nat) : Nat → Nat → List WorkItem → List Nat
  | _, _, [] => []
  | free, behind, it :: rest =>
    let share := min (wantedSlots it) (if it.id = frontId then free else min free (24 - behind))
    share :: if share < wantedSlots it then rest.map fun _ => 0
      else walkShares frontId (free - share) (if it.id = frontId then behind else behind + share) rest

/-- FREE slots given to blocks, one each, from the lowest-numbered slot on (R121, R122; log entry 29). -/
def slotsGiven : List (WorkItem × Nat) → List Slot → List Slot
  | _, [] => []
  | [], sl => sl
  | (it, k) :: more, x :: xs =>
    if x.state = .free then
      { x with
        state := if it.kind = .place then .awaiting else .reading
        holder := some it.id
        block := k
        frameIndex := if it.kind = .place then (it.frameBase + k) % 65536 else 0 } :: slotsGiven more xs
    else x :: slotsGiven ((it, k) :: more) xs

/-! ### Places, removals and halts in the words of the statements -/

/-- A lane's piece as the item that takes a place (R83). -/
def pieceItem (s : State) (id n : Nat) (p : Piece) : WorkItem :=
  { id := id, route := .lane n, kind := .place, extent := some p.extent, first := some p.first,
    count := p.count, blocksDone := 0, corrected := 0, replacements := 0, snapshot := s.profile.verify,
    state := .waiting, given := 0, sent := 0, frameBase := p.frameBase, ended := none }

/-- The lanes that are given the free places, in ascending lane number, each with its pending post (R84). -/
def placesGiven (s : State) : List (Nat × Piece) :=
  ([0, 1, 2, 3].filterMap fun n => (s.lane n).pendingPost.map fun p => (n, p)).take (8 - s.queue.length)

/-- The WAITING items of the lanes that `which` picks have left the queue and their slots are FREE (R92,
R130). -/
def withoutWaiting (which : Nat → Bool) (s : State) : State :=
  let leaves := fun it : WorkItem => (List.range 4).any fun n => which n && it.isWaitingOf n
  (s.setQueue (s.queue.filter fun it => !leaves it)).setSlots
    (freeItemSlots ((s.queue.filter leaves).map WorkItem.id) s.slots)

/-- Lane `n` is HALTED from the fields `l`, with the notice (R148). -/
def laneHalts (n : Nat) (l : Lane) (cause : HaltCause) (s : State) : State :=
  reports ((withoutWaiting (fun m => m == n) s).setLane n
    { l with state := .halted, halt := some cause, pendingPost := none })
    [.notice (.laneHalted n l.descriptor cause l.completed)]

/-- Every running lane is halted by an overrun without a notice, the posting lane with its own cause set
(R48). -/
def overrunHalts (poster : Option Nat) (c : CauseSet) (s : State) : State :=
  (withoutWaiting (fun n => (s.lane n).state.runs) s).setLanes (s.lanes.mapIdx fun n l =>
    if n < 4 ∧ l.state.runs = true then
      { l with
        state := .halted, pendingPost := none
        halt := some (if poster = some n then .causes c else .overrun) }
    else l)

/-- A violation has reached the fault record: captured when it is EMPTY, an overrun when it is HELD, nothing when
it is HELD-OVERRUN (R46, R48, R50). -/
def violated (poster : Option Nat) (a : Access) (c : CauseSet) (s : State) : State :=
  let access := a.captured (offendingOffset (s.entry a.extent) a c)
  if s.fault.captured = none then
    let r : FaultRecord := ⟨c, false, false, false, some access⟩
    reports (s.setFault r) [.notice (.fault .first r c access)]
  else if s.fault.overrun = false then
    let r : FaultRecord := { s.fault with overrun := true }
    overrunHalts poster c (reports (s.setFault r) [.notice (.fault .overrun r c access)])
  else s

/-- The fault record is HELD without an overrun (R45). -/
def FaultHeld (s : State) : Prop := s.fault.captured ≠ none ∧ s.fault.overrun = false

/-! ### Runs, and the close of an event -/

/-- The head waits for what its next pass needs: a bias switch, the speed, or the first sector (R103, R105,
R106). -/
def passAwaited (s : State) : State :=
  let start :=
    if s.head.pass.gated = true ∧ s.drive.speed = .offSpeed then
      s.setHead { s.head with activity := .holding, holdTimer := some 0 }
    else s.setHead { s.head with activity := .awaitingStart }
  match s.passBias with
  | none => start
  | some b =>
    if s.head.bias = b then start
    else (s.setHead { s.head with bias := .switching, activity := .biasing, biasTimer := some 0 }).setPort
      (s.port ++ [.switchBias b])

/-- A run is begun with its passes, at its track or with a seek to it (R98 to R102). -/
def runBegun (r : Run) (pass : PassKind) (later : List PassKind) (s : State) : State :=
  let h : Head := { s.head with
    run := some r, pass := pass, later := later, begun := false, revs := 0, seekIssues := 0
    wrongTracks := 0, seekTimer := none, biasTimer := none, holdTimer := none }
  if s.head.track = some r.track then passAwaited (s.setHead h)
  else (s.setHead { h with activity := .seeking, seekIssues := 1, seekTimer := some 0 }).setPort
    (s.port ++ [.seek r.track])

/-- `r` is the run of the item's next block `b`: `b` and every following block that is `ready`, not listed, next
in q and on the same track, up to the first that is not (R99, R100). -/
def RunFormed (s : State) (it : WorkItem) (ready : Nat → Prop) (r : Run) : Prop :=
  let b := it.blocksDone
  ∃ (p : Place) (n : Nat), s.itemPlace it b = some p ∧ 0 < n ∧ b + n ≤ it.count ∧
    r.track = p.track ∧ r.work = .blocks ∧ r.targets.length = n ∧
    (∀ j < n, ∃ x, s.itemPlace it (b + j) = some x ∧ x.track = p.track ∧
      r.targets[j]? = some ⟨x.sector, b + j, .toAct, false, 0⟩ ∧
      (1 < n → x.q = p.q + j ∧ x.listed = false) ∧ (0 < j → ready (b + j))) ∧
    (b + n < it.count → ready (b + n) → p.listed = false →
      ∀ x, s.itemPlace it (b + n) = some x → x.listed = false → x.q = p.q + n → x.track ≠ p.track)

/-- The item `it`, which has the next handle, joins the tail of the queue (R81, R83). -/
def joins (it : WorkItem) (s : State) : State := (s.setQueue (s.queue ++ [it])).setNextId (s.nextId + 1)

/-- The free places have gone to the pending lanes: an item each at the tail, the marks cleared (R83, R84). -/
def placesTaken (s : State) : State :=
  ((s.setQueue (s.queue ++
      (placesGiven s).zipIdx.map fun x => pieceItem s (s.nextId + x.2) x.1.1 x.1.2)).setNextId
    (s.nextId + (placesGiven s).length)).setLanes
    (s.lanes.mapIdx fun n l =>
      if n ∈ (placesGiven s).map Prod.fst then { l with pendingPost := none } else l)

/-- An event that has left `s` is followed by the walk of the buffer, which gives the FREE slots, raises the counts
of blocks that have been given one and sends the CREDITs (R121, R123; what `State.walk` does is a statement of its
own). Nothing else follows but that a head which waits for a slot forms its run when its next block has been given
one (R100). -/
def Walked (s t : State) : Prop :=
  let w := s.walk
  ((t.setHead s.head).setDataTimer s.dataTimer).setPort s.port = w ∧
    (s.head.activity ≠ .waitingSlot → t = w) ∧ (w.queue = [] → t = w) ∧
    ∀ it rest, s.head.activity = .waitingSlot → w.queue = it :: rest →
      (slotState it.id it.blocksDone w.slots ≠ .reading → t = w) ∧
      (slotState it.id it.blocksDone w.slots = .reading → it.kind = .fetch → s.drive.facts.isSome = true →
        it.blocksDone < it.count → (s.itemPlace it it.blocksDone).isSome = true →
        ∃ r, RunFormed w it (fun k => slotState it.id k w.slots = .reading) r ∧ t = runBegun r .read [] w)

/-- How an event that has left `s` closes: the free places go to the pending lanes (R84), and one walk follows
(R121). That the CREDITs come last is log entry 15. -/
def Settled (s t : State) : Prop := Walked (placesTaken s) t

/-! ### The end of an item -/

/-- The head is free and IDLE; its track and bias state are kept (R97, R113). -/
def idle (s : State) : State :=
  (s.setHead { Head.reset with track := s.head.track, bias := s.head.bias }).setDataTimer none

/-- The head's work is cut: a seek in flight leaves the track unknown, a bias switch the bias state UNSET (R114). -/
def cut (s : State) : State :=
  idle (s.setHead { s.head with
    track := if s.head.activity = .seeking then none else s.head.track
    bias := if s.head.activity = .biasing then .unset else s.head.bias })

/-- An item has left the queue, its slots are FREE, and its DONE is sent or its result is passed to the Lane
Engine (R87, R90, R130). -/
def ended (o : ItemOutcome) (c : WriteCause) (it : WorkItem) (s : State) : State :=
  let removed := (s.setQueue (s.queue.filter fun x => decide (x.id ≠ it.id))).setSlots
    (freeItemSlots [it.id] s.slots)
  match it.route with
  | .tag tag => reports removed [.done tag o c it.blocksDone it.corrected it.replacements]
  | .lane n => removed.laneResult false ⟨n, o, c, it.blocksDone, it.replacements⟩

/-- The item the head was at work on in `s` has ended; the head is free, the freed place and slots are given
(R84, R113, R121). -/
def ItemEnds (o : ItemOutcome) (c : WriteCause) (it : WorkItem) (s t : State) : Prop :=
  Settled (ended o c it (idle s)) t

/-- The head has reported the end of the item at the front of `s`: a FETCH with delivered blocks still unsent is
DELIVERING, and any other item ends (R87, R113). -/
def HeadEnds (o : ItemOutcome) (c : WriteCause) (it : WorkItem) (s t : State) : Prop :=
  (it.kind = .fetch → it.sent < it.blocksDone →
      t = (idle s).setQueue ({ it with state := .delivering, ended := some (o, c) } :: s.queue.tail)) ∧
    ((it.kind = .fetch → it.blocksDone ≤ it.sent) → ItemEnds o c it s t)

/-- The head is at work on the front item, outside a list write-back. -/
def Serves (it : WorkItem) (s : State) : Prop :=
  s.head.task = .item ∧ s.queue.head? = some it ∧ (s.head.run.map Run.work) ≠ some .listImage

/-- The head's work is cut where the item in service is ended from outside; a list write-back inside the item
goes on (R114). -/
def cutFor (it : WorkItem) (s : State) : State :=
  if it.state ≠ .inService then s
  else if (s.head.run.map Run.work) = some .listImage then
    (s.setHead { s.head with
      task := .writeBack .endedItem, relocations := 0, failing := [], matched := [] }).setDataTimer none
  else cut s

/-- The Sector Buffer has ended an item (R114, R125, R127). -/
def EndsFromOutside (o : ItemOutcome) (it : WorkItem) (s t : State) : Prop :=
  Settled (ended o .none it (cutFor it s)) t

/-- The index is lost: the revolution timer and the speed status take their values, with NOTICE SPEED_LOST in
READY (R159 to R161). -/
def indexGone (s : State) : State :=
  let lost := s.setDrive { s.drive with
    counter := 65535, period := none, tracking := false, good := 0, speed := .offSpeed }
  if s.drive.state = .ready ∧ s.drive.speed = .inSpeed then
    reports lost [.notice (.speedLost none)] else lost

/-- The commands by which a rule ends whatever task the head has: its outcome, and the state before the end is
dealt with (R101, R102, R104 to R106). -/
def HeadFails (s : State) (i : Instr) (o : ItemOutcome) (s' : State) : Prop :=
  (i = .seekTimeout ∧ s.head.activity = .seeking ∧ s.head.seekIssues = 2 ∧ o = .seekFailed ∧
    s' = s.setHead { s.head with track := none }) ∨
  (i = .biasTimeout ∧ s.head.activity = .biasing ∧ o = .biasFailed ∧
    s' = s.setHead { s.head with bias := .unset }) ∨
  (i = .holdTimeout ∧ s.head.activity = .holding ∧ o = .spindle ∧ s' = s) ∨
  (i = .sectorMissing ∧ s.head.activity = .inPass ∧ s.head.revs = 4 ∧
    (∃ t ∈ s.head.targets, t.seen = false) ∧ o = .sectorMissing ∧ s' = s) ∨
  (i = .indexLost ∧ s.drive.spindle = true ∧ s.drive.counter ≠ 65535 ∧
    (s.head.activity = .awaitingStart ∨ s.head.activity = .inPass) ∧ o = .sectorMissing ∧
    s' = indexGone s) ∨
  (∃ r track sector blank, i = .sectorIdArrival track sector blank ∧ s.head.run = some r ∧
    track ≠ r.track ∧ s.head.wrongTracks ≠ 0 ∧
    (s.head.activity = .awaitingStart ∨ s.head.activity = .inPass ∧ s.passOverdue = false) ∧
    o = .seekFailed ∧ s' = s.setHead { s.head with track := none })

/-! ### Passes -/

/-- The passes of a PLACE run by media kind (R1). -/
def placePasses (kind : MediaKind) (verify : Bool) : PassKind × List PassKind :=
  match kind, verify with
  | .e, true => (.erase, [.write, .verify])
  | .e, false => (.erase, [.write])
  | .d, true => (.write, [.verify])
  | .d, false => (.write, [])
  | .w, true => (.blankCheck, [.write, .verify])
  | .w, false => (.blankCheck, [.write])

/-- Blocks `ks` of the front item are complete: blocks-done, RF and CH, and their slots FREE (R20, R88, R98,
R128). -/
def completed (it : WorkItem) (rest : List WorkItem) (e : Nat) (ks : List Nat) (s : State) : State :=
  ((s.setQueue ({ it with blocksDone := it.blocksDone + ks.length } :: rest)).setExtents
    (if ks = [] then s.extents
     else s.extents.set e { s.extents.getD e Extent.blank with rf := true, ch := true })).setSlots
    (s.slots.map fun x =>
      if x.state ≠ .free ∧ x.holder = some it.id ∧ x.block ∈ ks then x.release else x)

/-- The head goes on with the PLACE item at the front of `s`: the item ends OK, or the head waits for the data of
the next block, or forms its next run (R98, R99, R127). -/
def PlaceGoesOn (it : WorkItem) (f : Facts) (s u : State) : Prop :=
  (it.blocksDone = it.count → ItemEnds .ok .none it s u) ∧
    (it.blocksDone < it.count → slotState it.id it.blocksDone s.slots ≠ .full →
      Settled ((s.setHead { s.head with activity := .waitingData, run := none }).setDataTimer (some 0)) u) ∧
    (it.blocksDone < it.count → slotState it.id it.blocksDone s.slots = .full →
      (s.itemPlace it it.blocksDone).isSome = true →
      ∃ r, RunFormed s it (fun k => slotState it.id k s.slots = .full) r ∧
        Settled (runBegun r (placePasses f.kind it.snapshot).1 (placePasses f.kind it.snapshot).2 s) u)

/-- The head goes on with the FETCH item at the front of `s`: its end, a wait for a slot, or its next run (R98,
R100, R112). -/
def FetchGoesOn (it : WorkItem) (s u : State) : Prop :=
  (it.blocksDone = it.count → HeadEnds .ok .none it s u) ∧
    (it.blocksDone < it.count → slotState it.id it.blocksDone s.slots ≠ .reading →
      u = s.setHead { s.head with activity := .waitingSlot, run := none }) ∧
    (it.blocksDone < it.count → slotState it.id it.blocksDone s.slots = .reading →
      (s.itemPlace it it.blocksDone).isSome = true →
      ∃ r, RunFormed s it (fun k => slotState it.id k s.slots = .reading) r ∧ u = runBegun r .read [] s)

/-- The head goes on with the BLANK item at the front of `s`: its end or its next run (R98, R100, R111). -/
def BlankGoesOn (it : WorkItem) (s u : State) : Prop :=
  (it.blocksDone = it.count → ItemEnds .ok .none it s u) ∧
    (it.blocksDone < it.count → (s.itemPlace it it.blocksDone).isSome = true →
      ∃ r, RunFormed s it (fun _ => True) r ∧ u = runBegun r .erase [.blankCheck] s)

/-- The head goes on to the pass `p` of its run, with `ps` after it (R103). -/
def nextPassAwaited (r : Run) (p : PassKind) (ps : List PassKind) (s : State) : State :=
  passAwaited (s.setHead { s.head with
    pass := p, later := ps, begun := false, revs := 0
    run := some { r with targets := r.targets.map fun t => ⟨t.sector, t.block, .toAct, false, 0⟩ } })

/-- The control run of a list write-back with its image (R67, R100, R116). -/
def writeBackBegun (s : State) : State :=
  let image := listImage s.list
  runBegun ⟨1, (List.range image.length).map fun n => ⟨n, n, .toAct, false, 0⟩, .listImage⟩ .erase
    [.write, .verify] (s.setHead { s.head with image := image })

/-- The failing block `k` with user-area PSA `p` of the front item of `s` is taken up: CHAIN after three
allocations, the cause of a failed allocation, or the new spare, with a write-back first under IMMEDIATE (R61 to
R66, R109). -/
def Relocated (it : WorkItem) (rest : List WorkItem) (f : Facts) (k p : Nat) (s u : State) : Prop :=
  (s.head.relocations = 3 → ItemEnds .writeFailed .chain it s u) ∧
    (s.head.relocations ≠ 3 →
      (∀ c, allocate f.spares p s.list = .failed c → ItemEnds .writeFailed c it s u) ∧
      (∀ l, allocate f.spares p s.list = .spare l →
        let s' := ((s.setList l).setQueue ({ it with replacements := it.replacements + 1 } :: rest)).setHead
          { s.head with relocations := s.head.relocations + 1 }
        (s.profile.listUpdate = .immediate → Settled (writeBackBegun s') u) ∧
        (∀ l, s.profile.listUpdate = .deferred → locate f.zones (f.users + s.list.next) = some l →
          Settled (runBegun ⟨l.track, [⟨l.sector, k, .toAct, false, 0⟩], .rewrite⟩
            (placePasses f.kind true).1 (placePasses f.kind true).2 s') u)))

/-- The failing block in hand is written again at its place, verify included (R109 steps 4 and 5). -/
def rewriteBegun (f : Facts) (k : Nat) (p : Place) (s : State) : State :=
  runBegun ⟨p.track, [⟨p.sector, k, .toAct, false, 0⟩], .rewrite⟩ (placePasses f.kind true).1
    (placePasses f.kind true).2 s

/-- The head's work is the pass `pass` on the run `r`, with the limit of R104 not reached. -/
def InPass (s : State) (pass : PassKind) (r : Run) : Prop :=
  s.head.activity = .inPass ∧ s.passOverdue = false ∧ s.head.pass = pass ∧ s.head.run = some r

/-- The result of the target `t` of the pass in hand is the last its round waits for: every other target has been
dealt with, and none shares its sector (R103). -/
def LastAwaited (r : Run) (before : List Target) (t : Target) (after : List Target) : Prop :=
  r.targets = before ++ t :: after ∧ t.stage = .awaiting ∧
    ∀ x ∈ before ++ after, x.sector ≠ t.sector ∧ (x.stage = .good ∨ x.stage = .bad)

/-- The target `t` is the next the pass acts on: every one before it has been acted on, and none shares its sector
(R103). -/
def NextToAct (r : Run) (before : List Target) (t : Target) (after : List Target) : Prop :=
  r.targets = before ++ t :: after ∧ t.stage = .toAct ∧ (∀ x ∈ before, x.stage ≠ .toAct) ∧
    (∀ x ∈ before ++ after, x.sector ≠ t.sector) ∧ ∀ x ∈ after, t.sector ≤ x.sector

/-- The pass begins with a sector ID arrival: IN_PASS with revolution count 0, and, when it is the write pass of a
STORE that has not begun yet, with the image of the table as it stands (R35, R103). -/
def passBegun (r : Run) (s : State) : State :=
  s.setHead { s.head with
    activity := .inPass, revs := 0, begun := true
    image := if r.work = .store ∧ s.head.pass = .write ∧ s.head.begun = false then extentImage s.extents
      else s.head.image }

/-- The pass that a sector ID arrival belongs to: the one in progress, or the one that the arrival begins
(R103). -/
def inItsPass (r : Run) (s : State) : State :=
  if s.head.activity = .awaitingStart then passBegun r s else s

/-- A sector ID arrival on the run's track is one of the pass: the pass is in progress, its limit not reached
(R104), or the arrival may begin it (R103). -/
def ArrivalCounts (s : State) : Prop :=
  s.head.activity = .inPass ∧ s.passOverdue = false ∨
    s.head.activity = .awaitingStart ∧ BiasMet s ∧
      (s.head.pass.gated = true → s.drive.speed = .inSpeed ∧ s.drive.tab ≠ some true)

/-- The result of the target is taken as uncorrectable or fail: by its own event, or because its sector ID comes
again before it (R103, R112). -/
def ResultFails (own : Instr) (r : Run) (t : Target) (i : Instr) : Prop :=
  i = own ∨ ∃ blank, i = .sectorIdArrival r.track t.sector blank

/-- The head with the targets of its run replaced. -/
def withTargets (r : Run) (ts : List Target) (s : State) : Head :=
  { s.head with run := some { r with targets := ts } }

/-- The target may be read again: uncorrectable fewer than three times (R112). -/
def Retried (t : Target) : Prop := t.stage = .bad ∧ t.attempts < 3

/-- The head in a new round of its read pass, which takes those of the targets `ts` that may be read again (R112). -/
def roundAgain (r : Run) (ts : List Target) (s : State) : Head :=
  withTargets r (ts.map fun x => if x.stage = .bad ∧ x.attempts < 3 then { x with stage := .toAct } else x) s

/-- Block `k` of the FETCH item has been delivered: its slot READY with the data, the corrected count added, RF
set, and `done` leading blocks done (R13, R20, R89, R112, R129). -/
def received (it : WorkItem) (rest : List WorkItem) (e k : Nat) (d : Block) (n done : Nat) (s : State) :
    State :=
  ((s.setSlots (s.slots.map fun x =>
      if x.state ≠ .free ∧ x.holder = some it.id ∧ x.block = k then { x with state := .ready, data := d }
      else x)).setQueue
    ({ it with corrected := min 65535 (it.corrected + n), blocksDone := done } :: rest)).setExtents
    (s.extents.set e { s.extents.getD e Extent.blank with rf := true })

/-- The first `done` blocks of a FETCH item have been delivered, and the next, if there is one, has not (R88). -/
def LeadingDelivered (it : WorkItem) (slots : List Slot) (done : Nat) : Prop :=
  it.blocksDone ≤ done ∧ done ≤ it.count ∧
    (∀ k, it.blocksDone ≤ k → k < done →
      slotState it.id k slots = .ready ∨ slotState it.id k slots = .sending) ∧
    (done < it.count → slotState it.id done slots ≠ .ready ∧ slotState it.id done slots ≠ .sending)

/-! ### The mount -/

/-- A control read of sectors `first` to `first + n - 1` is begun on control track `track` (R100, R115). -/
def readBegun (c : ControlRead) (track first n : Nat) (readIn : List (Nat × Block)) (s : State) : State :=
  runBegun ⟨track, (List.range n).map fun i => ⟨first + i, first + i, .toAct, false, 0⟩, .control⟩ .read []
    (s.setHead { Head.reset with
      track := s.head.track, bias := s.head.bias, task := .controlRead c, readIn := readIn })

/-- The drive is FAULTED with its cause, the spindle OFF (R153 to R155, R96, R159, R160). -/
def mountFailed (c : MountFault) (s : State) : State :=
  reports (((s.setDrive { s.drive with
      state := .faulted, mountFault := some c, spinUp := none, spindle := false, counter := 0
      period := none, tracking := false, speed := .offSpeed, good := 0 }).setHead
    { s.head with track := none, bias := .unset }).setPort
      (s.port ++ if s.drive.spindle then [.spindleOff] else []))
    [.notice (.mountFailed c)]

/-- The drive is READY with NOTICE MEDIA_READY (R154). -/
def mounted (f : Facts) (s : State) : State :=
  reports (s.setDrive { s.drive with state := .ready })
    [.notice (.mediaReady f.kind s.drive.tab f.users f.spares s.list.entries.length s.list.next
      s.drive.speed)]

/-- The extent table could not be taken: every entry has V = 0, NOTICE TABLE_MISSING is sent, and the mount
succeeds (R36, R154). -/
def mountedWithoutTable (f : Facts) (s : State) : State :=
  mounted f (reports (s.setExtents (List.replicate 48 Extent.blank)) [.notice .tableMissing])

/-- The record that a control read was for could not be read (R6, R115, R154). -/
def recordFailed (f : Facts) (c : ControlRead) (s : State) : State :=
  match c with
  | .format => mountFailed .format (idle s)
  | .listHeader => mountFailed .list (idle s)
  | .listEntries => mountFailed .list (idle s)
  | .extents => mountedWithoutTable f (idle s)

/-- The sectors of the list image have been read: the list is taken, or the mount fails (R10, R73, R154). -/
def listTaken (f : Facts) (sectors : List (Nat × Block)) (s : State) : State :=
  match readList f sectors with
  | none => mountFailed .list s
  | some l =>
    if s.drive.mountSource = .cartridge then readBegun .extents 2 0 1 [] (s.setList l)
    else mounted f (s.setList l)

/-! ### Unload, loss and time -/

/-- Every ACTIVE lane is halted by the start of an unload, with its notice, in ascending lane number (R149). -/
def unloadHalts (s : State) : State :=
  let stops := fun n => decide ((s.lane n).state = .active)
  reports ((withoutWaiting stops s).setLanes (s.lanes.mapIdx fun n l =>
      if n < 4 ∧ l.state = .active then
        { l with state := .halted, halt := some .unload, pendingPost := none }
      else l))
    (([0, 1, 2, 3].filter stops).map fun n =>
      .notice (.laneHalted n (s.lane n).descriptor .unload (s.lane n).completed))

/-- The frames that the end of an item by a cartridge loss produces, and the lanes after it (R93, R143, R147,
R150). -/
def lossOf (slots : List Slot) (lanes : List Lane) (it : WorkItem) : List Frame × List Lane :=
  match it.route with
  | .tag tag =>
    ((if it.kind = .fetch then
        (List.range' it.sent (it.blocksDone - it.sent)).map fun k =>
          Frame.data tag k (slotData it.id k slots)
      else []) ++ [.done tag .mediaGone .none it.blocksDone it.corrected it.replacements], lanes)
  | .lane n =>
    let lane := lanes.getD n Lane.reset
    let l : Lane := { lane with completed := lane.completed + it.blocksDone }
    let gone := HaltCause.outcome .mediaGone .none
    if l.state = .active then
      ([.notice (.laneHalted n l.descriptor gone l.completed)],
        lanes.set n { l with state := .halted, halt := some gone, pendingPost := none })
    else if l.state = .draining ∨ l.state = .halted ∧ l.stops ≠ [] then
      (l.stops.map fun tag => .answer 0x12#8 tag .ok (.stopped n l.descriptor l.completed),
        lanes.set n { l with state := .idle, halt := none, stops := [] })
    else ([], lanes.set n l)

/-- The same for the items of a queue, front first (R93). -/
def lossOfAll (slots : List Slot) : List WorkItem → List Lane → List Frame × List Lane
  | [], lanes => ([], lanes)
  | it :: rest, lanes =>
    let one := lossOf slots lanes it
    let more := lossOfAll slots rest one.2
    (one.1 ++ more.1, more.2)

/-- The halts of the lanes that are ACTIVE after the last item's end (R149). -/
def lossHalts (lanes : List Lane) : List Frame :=
  ([0, 1, 2, 3].filter fun n => decide ((lanes.getD n Lane.reset).state = .active)).map fun n =>
    .notice (.laneHalted n (lanes.getD n Lane.reset).descriptor (.outcome .mediaGone .none)
      (lanes.getD n Lane.reset).completed)

/-- An index arrival that finds no period to measure: the counter is cleared, tracking goes on, and a pass counts
the revolution (R104, R159). -/
def trackingResumed (s : State) : State :=
  (s.setDrive { s.drive with counter := 0, tracking := true }).setHead
    (if s.head.activity = .inPass then { s.head with revs := min 4 (s.head.revs + 1) } else s.head)

/-- A timer stands one microsecond before its limit, or beyond (R101, R105, R106, R127, R153). -/
def Due (limit : Nat) (t : Option Nat) : Prop := ∃ n, t = some n ∧ limit ≤ n + 1

/-- The counters and timers one microsecond later (R159). -/
def elapsed (s : State) : State :=
  ((s.setDrive { s.drive with
      spinUp := s.drive.spinUp.map (· + 1)
      counter := if s.drive.spindle = true ∧ s.drive.counter + 1 < 65535 then s.drive.counter + 1
        else s.drive.counter }).setHead
    { s.head with
      seekTimer := s.head.seekTimer.map (· + 1)
      biasTimer := s.head.biasTimer.map (· + 1)
      holdTimer := s.head.holdTimer.map (· + 1) }).setDataTimer (s.dataTimer.map (· + 1))

end Sys2Proof.Safety
end

