-- ==== Sys2Proof/Certificates/Slice0/Obligations.lean ====
section
/-! DEFINITION. The statements for the provers, each over every state. `Host.Outcome.next` answers are written
`.next`; `taken s` is `s` with the frame taken off the receiver, and `reports s fs` is `s` with the frames
`fs` produced. `s.held = false` says that the reset line is not asserted (R179). Where a
clause says that a command for a step of the part's own, or for an expiry, changes nothing because its
condition does not hold, that is the model's choice (log entries 12 and 24); and wherever one says that an event
leaves `Settled t`, or ends an item, that the CREDITs follow the event's other reports is the model's reading (log
entry 15), and which of the FREE slots its walk gives is its choice (log entry 29). -/

section

open Sys2Proof Sys2Proof.Machine Sys2Proof.Safety

/-! ### The step, the reset line and the laws that every step keeps -/

/-- A step runs the command at the front of the queue with the queue's rest. -/
def Obligations.StepRunsTheFrontCommand : Prop :=
  ∀ (c : Instr) (rest : List Instr) (s : State),
    step (s.setPending (c :: rest)) = exec c (s.setPending rest)

/-- With no command waiting one microsecond passes (the model's choice, log entry 4): under the reset line
nothing changes; otherwise the running timers, and the revolution counter of a spindle that is ON, rise by 1
(R159), and the one timer that reaches its limit, of 6 s, 60 ms, 20 ms, 1.5 s or 2 s, or the counter that reaches
65,535, has the effect of its own command (R101, R105, R106, R127, R153, R159). -/
def Obligations.AnIdleStepIsOneMicrosecond : Prop :=
  ∀ s : State, s.pending = [] →
    (s.held = true → step s = .next s) ∧
    (s.held = false →
      let spinUp := Due 6000000 s.drive.spinUp
      let seek := Due 60000 s.head.seekTimer
      let bias := Due 20000 s.head.biasTimer
      let hold := Due 1500000 s.head.holdTimer
      let data := Due 2000000 s.dataTimer
      let index := s.drive.spindle = true ∧ s.drive.counter + 1 = 65535
      (¬ spinUp → ¬ seek → ¬ bias → ¬ hold → ¬ data → ¬ index → step s = .next (elapsed s)) ∧
      (spinUp → ¬ seek → ¬ bias → ¬ hold → ¬ data → ¬ index → step s = exec .spinUpTimeout (elapsed s)) ∧
      (¬ spinUp → seek → ¬ bias → ¬ hold → ¬ data → ¬ index → step s = exec .seekTimeout (elapsed s)) ∧
      (¬ spinUp → ¬ seek → bias → ¬ hold → ¬ data → ¬ index → step s = exec .biasTimeout (elapsed s)) ∧
      (¬ spinUp → ¬ seek → ¬ bias → hold → ¬ data → ¬ index → step s = exec .holdTimeout (elapsed s)) ∧
      (¬ spinUp → ¬ seek → ¬ bias → ¬ hold → data → ¬ index → step s = exec .dataTimeout (elapsed s)) ∧
      (¬ spinUp → ¬ seek → ¬ bias → ¬ hold → ¬ data → index → step s = exec .indexLost (elapsed s)))

/-- R179 and the rules it gathers: while the reset line is asserted the part takes no event, and the values at
hardware reset asserted, each of the drive, the lanes and the tables whole; `tried` is the model's own mark (log entry 7). That the
waiting commands stay is the model's choice (log entry 21). -/
def Obligations.TheResetLineHoldsThePartAtItsResetValues : Prop :=
  (∀ (c : Instr) (s : State), s.held = true → c ≠ .hardwareResetAsserted →
    (∀ straps cartridge, c ≠ .hardwareResetReleased straps cartridge) → exec c s = .next s) ∧
  ∀ s : State, ∃ t, exec .hardwareResetAsserted s = .next t ∧ t.queue = [] ∧
    t.slots.length = 32 ∧ (∀ x ∈ t.slots, x.state = .free ∧ x.holder = none) ∧
    t.lanes = List.replicate 4
      { state := .idle, descriptor := 0, offset := 0, remaining := 0, nextIndex := 0, completed := 0
        pendingPost := none, cls := .ordinary, halt := none, stops := [] } ∧
    t.descriptors = List.replicate 32
      { mode := .none, extent := 0#8, start := 0#16, band := 0#16, stride := 0#16, count := 0#16
        link := 0#8, notify := 0#8 } ∧
    t.extents = List.replicate 48
      { v := false, base := 0#13, limit := 0#10, ds := false, wa := false, ro := false, si := false
        oi := false, sv := false, rf := false, ch := false } ∧
    t.fault = ⟨⟨false, false, false, false, false, false⟩, false, false, false, none⟩ ∧
    t.list = { loaded := false, entries := [], next := 0, dirty := false, request := false } ∧
    t.drive = { state := .empty, spindle := false, spinUp := none, mountFault := none, mountSource := .link
                answers := [], tried := false, facts := none, tab := none, counter := 0, period := none
                tracking := false, speed := .offSpeed, good := 0 } ∧
    t.head.task = .none ∧ t.head.activity = .idle ∧ t.head.track = none ∧ t.head.bias = .unset ∧
    t.head.revs = 0 ∧ t.head.wrongTracks = 0 ∧ t.head.relocations = 0 ∧ t.head.failing = [] ∧
    t.head.matched = [] ∧ t.head.image = [] ∧ t.dataTimer = none ∧
    t.receiver = ⟨.hunting, []⟩ ∧ t.outbound = [] ∧ t.held = true ∧ t.pending = s.pending

/-- R173, R179: the release samples the straps, puts the receiver to HUNTING, and takes a present cartridge up
as an insertion; nothing is reported. That it acts whether or not the line was asserted is the model's choice
(log entry 21). -/
def Obligations.ReleaseOfResetSamplesTheStraps : Prop :=
  ∀ (s : State) (p : Straps),
    let s' := ((s.setHeld false).setProfile
      { extentSource := if p.extentSource then .cartridge else .link
        verify := !p.verify
        listUpdate := if p.listUpdate then .immediate else .deferred }).setReceiver ⟨.hunting, []⟩
    exec (.hardwareResetReleased p none) s = .next s' ∧
    ∀ tab, s.drive.state = .empty →
      exec (.hardwareResetReleased p (some tab)) s = .next
        ((s'.setDrive { s.drive with
          state := .spinningUp, tab := some tab, spindle := true, spinUp := some 0, counter := 0,
          period := none, tracking := false, speed := .offSpeed, good := 0, tried := false }).setPort
          (s.port ++ [.spindleOn]))

/-- The state after reset meets the laws that the next four statements carry from step to step. -/
def Obligations.TheStateAfterResetMeetsTheLaws : Prop :=
  FaultLaw State.reset.fault ∧ QueueLaw State.reset.queue ∧ ShapeLaw State.reset ∧
    WaitingLaw State.reset

/-- R45: every step keeps the law of the fault record, by which OVERRUN never stands without another cause. -/
def Obligations.EveryStepKeepsTheFaultLaw : Prop :=
  ∀ s t : State, FaultLaw s.fault → step s = .next t → FaultLaw t.fault

/-- R78: every step keeps the law of the queue: at most 8 items, and only the front one in service. -/
def Obligations.EveryStepKeepsTheQueueLaw : Prop :=
  ∀ s t : State, QueueLaw s.queue → step s = .next t → QueueLaw t.queue

/-- R17, R119, R133, R137: every step keeps 48 extent entries, 32 slots, 32 descriptors and 4 lanes. -/
def Obligations.EveryStepKeepsTheTableSizes : Prop :=
  ∀ s t : State, ShapeLaw s → step s = .next t → ShapeLaw t

/-- R84, R137, R146, R147: every step keeps the law of the waiting lanes: a lane waits for a place only while it
is ACTIVE and none is free, and outstanding stops stand only on a DRAINING or HALTED lane. That the handles of
the queued items are distinct and used up is a law of the model's own handles (log entry 7). -/
def Obligations.EveryStepKeepsTheWaitingLaw : Prop :=
  ∀ s t : State, WaitingLaw s → step s = .next t → WaitingLaw t

/-- The frame of every command: the groups of state outside its footprint are unchanged. -/
def Obligations.EveryCommandKeepsItsFrame : Prop :=
  ∀ (c : Instr) (s t : State), WellFormed c = true → c ≠ .hardwareResetAsserted →
    (∀ straps cartridge, c ≠ .hardwareResetReleased straps cartridge) →
    exec c s = .next t → SameOutside (touches c) s t

/-! ### The link -/

/-- R165, R166, R170, R172: a command that is a whole frame is read back from the content it is sent as. -/
def Obligations.DecodingReadsTheEncodedFrame : Prop :=
  ∀ (i : Instr) (content : List Byte), WellFormed i = true → encodeContent i = some content →
    decodeContent content = some i

/-- R163, R164, R165: whatever the receiver was doing, a frame on the wire leaves it HUNTING with one assembly
complete, whose check gives the content. -/
def Obligations.TheReceiverReadsAFrameOnTheWire : Prop :=
  ∀ (r : Receiver) (content : List Byte), content ≠ [] → content.length ≤ 1040 →
    ∃ assembly, Receiver.bytes r (wireOf content) = (⟨.hunting, []⟩, [assembly]) ∧
      checkedContent assembly = some content

/-- R164: the receiver's table, with the 1043rd byte of an assembly. -/
def Obligations.TheReceiverFollowsItsTable : Prop :=
  ∀ (r : Receiver) (b : Byte),
    (r.state = .hunting → b = 0xA5#8 → r.byte b = (⟨.assembling, []⟩, none)) ∧
    (r.state = .hunting → b ≠ 0xA5#8 → r.byte b = (r, none)) ∧
    (r.state = .assembling → b = 0x5A#8 → r.byte b = (⟨.hunting, []⟩, some r.assembly)) ∧
    (r.state = .assembling → b = 0xA5#8 → r.byte b = (⟨.assembling, []⟩, none)) ∧
    (r.state = .assembling → b = 0x3C#8 → r.byte b = (⟨.escaped, r.assembly⟩, none)) ∧
    (r.state = .assembling → b ≠ 0x5A#8 → b ≠ 0xA5#8 → b ≠ 0x3C#8 → r.assembly.length < 1042 →
      r.byte b = (⟨.assembling, r.assembly ++ [b]⟩, none)) ∧
    (r.state = .assembling → b ≠ 0x5A#8 → b ≠ 0xA5#8 → b ≠ 0x3C#8 → 1042 ≤ r.assembly.length →
      r.byte b = (⟨.hunting, []⟩, none)) ∧
    (r.state = .escaped → (b = 0x85#8 ∨ b = 0x7A#8 ∨ b = 0x1C#8) → r.assembly.length < 1042 →
      r.byte b = (⟨.assembling, r.assembly ++ [b ^^^ 0x20#8]⟩, none)) ∧
    (r.state = .escaped → (b = 0x85#8 ∨ b = 0x7A#8 ∨ b = 0x1C#8) → 1042 ≤ r.assembly.length →
      r.byte b = (⟨.hunting, []⟩, none)) ∧
    (r.state = .escaped → b = 0xA5#8 → r.byte b = (⟨.assembling, []⟩, none)) ∧
    (r.state = .escaped → b ≠ 0x85#8 → b ≠ 0x7A#8 → b ≠ 0x1C#8 → b ≠ 0xA5#8 →
      r.byte b = (⟨.hunting, []⟩, none))

/-- R164, R165: the bytes of a discarded frame and of an aborted one change nothing but the receiver, which is
HUNTING. -/
def Obligations.DiscardedFramesChangeNothing : Prop :=
  ∀ (wire : List Byte) (s : State), s.held = false →
    (isBadFrame wire = true → exec (.badFrame wire) s = .next (taken s)) ∧
    (isAbort wire = true → exec (.abort wire) s = .next (taken s))

/-- R166, the tests of an order frame in order: a kind that is not in the catalogue, then for its nineteen
orders BAD_LENGTH, then CLASS. -/
def Obligations.LinkTestsRefuseOrders : Prop :=
  ∀ (i : Instr) (kind cls tag : Byte) (params : List Byte) (s : State), s.held = false →
    (kind ∉ catalogue → exec (.unknownOrder kind cls tag params) s =
      .next (reports (taken s) [.answer kind tag .unknownOrder .none])) ∧
    (orderParts i = some (kind, cls, tag, params) →
      (catalogueLength kind params ≠ some params.length →
        exec i s = .next (reports (taken s) [.answer kind tag .badLength .none])) ∧
      (catalogueLength kind params = some params.length → serviceKind kind = true →
        cls.getLsbD 0 = false →
        exec i s = .next (reports (taken s) [.answer kind tag .cls .none])))

/-- R163, R168: the frame being sent leaves whole, escaped, with its check value, and the rest of the sequence
follows in order. -/
def Obligations.FramesLeaveInProductionOrder : Prop :=
  ∀ (s : State) (f : Frame) (rest : List Frame), s.held = false →
    (s.outbound = f :: rest →
      exec .frameSent s = .next ((s.setLine (s.line ++ wireOf f.content)).setOutbound rest)) ∧
    (s.outbound = [] → exec .frameSent s = .next s)

/-! ### Accepting media orders -/

/-- R79 steps 2 to 6 for FETCH, PLACE, BLANK, STORE EXTENTS and FLUSH LIST: the first check that fails gives
its code, and the order changes nothing else. -/
def Obligations.EarlyChecksRefuseInOrder : Prop :=
  ∀ (k : ItemKind) (c tag : Byte) (p : List Byte) (s : State), s.held = false → LinkPasses k c p →
    let refused (code : Code) : State :=
      reports (taken s) [.answer (mediaOrderKind k) tag code .none]
    (s.drive.state = .unloading → exec (mediaOrder k c tag p) s = .next (refused .unloading)) ∧
    (s.drive.state ≠ .ready → s.drive.state ≠ .unloading →
      exec (mediaOrder k c tag p) s = .next (refused .noMedia)) ∧
    (s.drive.state = .ready → TagHeld s tag →
      exec (mediaOrder k c tag p) s = .next (refused .tagBusy)) ∧
    (s.drive.state = .ready → ¬ TagHeld s tag → ¬ (1 ≤ orderCount k p ∧ orderCount k p ≤ 256) →
      exec (mediaOrder k c tag p) s = .next (refused .badCount)) ∧
    (s.drive.state = .ready → ¬ TagHeld s tag → 1 ≤ orderCount k p → orderCount k p ≤ 256 →
      k = .blank → s.drive.facts.map Facts.kind = some .w →
      exec (mediaOrder k c tag p) s = .next (refused .mediaKind)) ∧
    (s.drive.state = .ready → ¬ TagHeld s tag → 1 ≤ orderCount k p → orderCount k p ≤ 256 →
      (k = .blank → s.drive.facts.map Facts.kind ≠ some .w) → k ≠ .fetch →
      s.drive.tab = some true →
      exec (mediaOrder k c tag p) s = .next (refused .writeProtected))

/-- R42, R46, R48, R50: a violating FETCH, PLACE or BLANK order. On an EMPTY record it is captured; on a
HELD-OVERRUN one only its refusal is sent; on a HELD one it overruns, every running lane halts with cause
OVERRUN, and the WAITING items of those lanes are all that leaves the queue; the walk follows, its CREDITs after the
notice and the refusal (the model's reading, log entry 15). -/
def Obligations.ViolatingOrdersAreRefusedAndRecorded : Prop :=
  ∀ (k : ItemKind) (c tag : Byte) (p : List Byte) (s : State), s.held = false →
    namesExtent k = true → LinkPasses k c p → EarlyPasses s k tag p →
    let a := accessOf k c tag p
    let causes := s.causes a
    causes ≠ CauseSet.empty →
    let access := a.captured (offendingOffset (s.entry a.extent) a causes)
    let refusal := Frame.answer (mediaOrderKind k) tag .violation (.causes causes)
    (s.fault.captured = none →
      let r : FaultRecord := ⟨causes, false, false, false, some access⟩
      exec (mediaOrder k c tag p) s = .next
        (reports ((taken s).setFault r) [.notice (.fault .first r causes access), refusal])) ∧
    (s.fault.captured ≠ none → s.fault.overrun = true →
      exec (mediaOrder k c tag p) s = .next (reports (taken s) [refusal])) ∧
    (FaultHeld s → PendingLaw s → s.lanes.length = 4 →
      let r : FaultRecord := { s.fault with overrun := true }
      let halted := overrunHalts none causes
        (reports ((taken s).setFault r) [.notice (.fault .overrun r causes access)])
      ∃ t, exec (mediaOrder k c tag p) s = .next t ∧ Settled (reports halted [refusal]) t ∧ t.fault = r ∧
        (∀ n < 4, (s.lane n).state = .active ∨ (s.lane n).state = .draining →
          t.lane n = { s.lane n with
            state := .halted, halt := some .overrun, pendingPost := none }) ∧
        (∀ n < 4, (s.lane n).state = .idle ∨ (s.lane n).state = .halted → t.lane n = s.lane n) ∧
        t.queue.map bareItem = (s.queue.filter fun it =>
          !((List.range 4).any fun n => (s.lane n).state.runs && it.isWaitingOf n)).map bareItem)

/-- R27, R28, R34, R70, R79 steps 8 and 9, R84: BEYOND_MEDIA, and QUEUE_FULL, for all five orders, when no place is
free or a lane waits for the next, which in a run it does only while none is free (log entry 13); an edge event raised
at step 7 stands. -/
def Obligations.LaterChecksRefuseAndTheEdgeEventStands : Prop :=
  ∀ (k : ItemKind) (c tag : Byte) (p : List Byte) (s : State), s.held = false →
    LinkPasses k c p → EarlyPasses s k tag p →
    let a := accessOf k c tag p
    let beyond := beyondUsers s.drive.facts (s.entry a.extent) a
    let full := 8 ≤ s.queue.length ∨ ∃ n < 4, (s.lane n).pendingPost ≠ none
    let refused (code : Code) : Frame := .answer (mediaOrderKind k) tag code .none
    (namesExtent k = true → s.causes a = CauseSet.empty → beyond = true →
      exec (mediaOrder k c tag p) s = .next (reports ((taken s).edgeCheck a) [refused .beyondMedia])) ∧
    (namesExtent k = true → s.causes a = CauseSet.empty → beyond = false → full →
      exec (mediaOrder k c tag p) s = .next (reports ((taken s).edgeCheck a) [refused .queueFull])) ∧
    (namesExtent k = false → full →
      exec (mediaOrder k c tag p) s = .next (reports (taken s) [refused .queueFull]))

/-- R28, R79 steps 7 to 9, R81, R121: an order that passes every check and finds a free place that no lane waits for
becomes a work item at the tail. Its edge event, if it raises one, acts on the fault record; the walk follows, its
CREDITs after that event's notice (the model's reading, log entry 15); nothing else changes. -/
def Obligations.AcceptedOrdersJoinTheTail : Prop :=
  ∀ (k : ItemKind) (c tag : Byte) (p : List Byte) (s : State), s.held = false →
    LinkPasses k c p → EarlyPasses s k tag p →
    let a := accessOf k c tag p
    (namesExtent k = true → s.causes a = CauseSet.empty ∧
      beyondUsers s.drive.facts (s.entry a.extent) a = false) →
    s.queue.length < 8 → (∀ n < 4, (s.lane n).pendingPost = none) →
    let edged := if namesExtent k then (taken s).edgeCheck a else taken s
    let it : WorkItem :=
      { id := s.nextId, route := .tag tag, kind := k
        extent := if namesExtent k then some (field p 0 1) else none
        first := if namesExtent k then some (field p 1 2) else none
        count := orderCount k p, blocksDone := 0, corrected := 0, replacements := 0
        snapshot := s.profile.verify, state := .waiting, given := 0, sent := 0, frameBase := 0
        ended := none }
    ∃ t, exec (mediaOrder k c tag p) s = .next t ∧ Settled (joins it edged) t

/-- R120 to R123: the walk over any queue. It goes from the front item on, gives each item's lowest slotless blocks
FREE slots in ascending order, keeps the items behind the front within 24 slots, ends at the first item it leaves with
slotless blocks, and sends one CREDIT for each PLACE item that was given slots, in queue order; a slot in use is as
before. Which of the FREE slots a block is given is the model's choice (log entry 29). -/
def Obligations.TheWalkKeepsTheFrontReserve : Prop :=
  ∀ (s : State) (front : WorkItem) (rest : List WorkItem), s.queue = front :: rest →
    s.walk.queue.map bareItem = s.queue.map bareItem ∧ s.walk.slots.length = s.slots.length ∧
    (∀ (i : Nat) (x : Slot), s.slots[i]? = some x → x.state ≠ .free → s.walk.slots[i]? = some x) ∧
    (heldBehind front.id s.slots ≤ 24 → heldBehind front.id s.walk.slots ≤ 24) ∧
    (let shares := s.queue.zip
       (walkShares front.id (freeCount s.slots) (heldBehind front.id s.slots) s.queue)
     s.walk.queue = (shares.map fun x => { x.1 with given := x.1.given + x.2 }) ∧
     s.walk.slots = slotsGiven
       (shares.flatMap fun x => (List.range' x.1.given x.2).map fun k => (x.1, k)) s.slots ∧
     s.walk.outbound = s.outbound ++ ((shares.filter fun x =>
       decide (x.1.kind = .place) && decide (0 < x.2)).map fun x => Frame.credit x.1.route x.2)) ∧
    (rest = [] → front.kind = .place → front.ended = none → front.given = 0 → 1 ≤ front.count →
      s.slots.length = 32 → (∀ x ∈ s.slots, x.state = .free) →
      s.walk.outbound = s.outbound ++ [.credit front.route (min front.count 32)])

/-! ### Protection and the fault record -/

/-- R25 to R27, R29, R40, R41, R44, R134: the checks of an access. Its cause set, an absent entry giving ABSENT alone;
the first offending offset of a violation; for an access within the legal offsets the test of its last PSA against U,
made only while the facts of a side are held; which descriptors are startable, and the footprint of one that is. -/
def Obligations.AccessesAndFootprintsAreCheckedByTheRules : Prop :=
  (∀ (s : State) (a : Access), s.extents.length = 48 →
    (48 ≤ a.extent → s.causes a = ⟨true, false, false, false, false, false⟩) ∧
    ∀ e, s.extents[a.extent]? = some e → s.entry a.extent = e ∧
      (e.v = false → s.causes a = ⟨true, false, false, false, false, false⟩) ∧
      (e.v = true →
        ((s.causes a).absent = false) ∧
        ((s.causes a).range = true ↔ a.first < e.low ∨ e.high < a.last) ∧
        ((s.causes a).roWrite = true ↔ a.kind ≠ .fetch ∧ e.ro = true) ∧
        ((s.causes a).serviceOnly = true ↔ a.cls = .ordinary ∧ e.sv = true) ∧
        ((s.causes a).laneInhibit = true ↔
          (a.kind = .startLane ∨ a.kind = .lanePost) ∧ e.si = true) ∧
        ((s.causes a).orderInhibit = true ↔
          (a.kind = .fetch ∨ a.kind = .place ∨ a.kind = .blank) ∧ e.oi = true))) ∧
  (∀ (e : Extent) (a : Access) (c : CauseSet), c ≠ CauseSet.empty →
    let rangeAlone : CauseSet := ⟨false, true, false, false, false, false⟩
    (c ≠ rangeAlone → offendingOffset e a c = a.first) ∧
    (a.first < e.low ∨ e.high < a.first → offendingOffset e a rangeAlone = a.first) ∧
    (e.low ≤ a.first → a.first ≤ e.high → offendingOffset e a rangeAlone = e.high + 1)) ∧
  (∀ (f : Facts) (e : Extent) (a : Access), beyondUsers none e a = false ∧
    (e.low ≤ a.first → a.first ≤ a.last → a.last ≤ e.high →
      (beyondUsers (some f) e a = true ↔ f.users ≤ 64 * e.base.toNat + (a.last - e.low)))) ∧
  ∀ (d : Descriptor) (cls : OrderClass) (n : Nat),
    let banded := d.mode = .band ∨ d.mode = .ring
    (d.startable = true ↔ (d.mode = .run ∨ banded) ∧ 1 ≤ d.count.toNat ∧
      (banded → 1 ≤ d.band.toNat ∧ d.band.toNat ≤ 64 ∧ d.band.toNat ≤ d.stride.toNat ∧
        d.stride.toNat ≤ 4096)) ∧
    (d.startable = true → d.footprint cls n =
      { kind := .startLane, cls := cls, route := .lane n, extent := d.extent.toNat, first := d.start.toNat
        last := if banded then d.start.toNat + (d.count.toNat - 1) * d.stride.toNat + d.band.toNat - 1
          else d.start.toNat + d.count.toNat - 1 })

/-- R28, R44, R47, R49, R50: an access of PLACE, BLANK or a lane post that touches the edge granule of a
watched entry, on each state of the record; any other access raises no edge event. -/
def Obligations.EdgeEventsReachTheRecord : Prop :=
  ∀ (s : State) (a : Access),
    let e := s.entry a.extent
    let touched := e.wa = true ∧ (a.kind = .place ∨ a.kind = .blank ∨ a.kind = .lanePost) ∧
      (if e.ds then a.first ≤ e.low + 63 else 64 * e.limit.toNat ≤ a.last)
    let access : Captured :=
      { extent := a.extent
        offset := if e.ds then a.first else max a.first (64 * e.limit.toNat)
        route := a.route, kind := a.kind, cls := a.cls }
    (¬ touched → s.edgeCheck a = s) ∧
    (touched → s.fault.captured = none →
      let r : FaultRecord := ⟨CauseSet.empty, true, false, false, some access⟩
      s.edgeCheck a = reports (s.setFault r) [.notice (.nearFull .first r access)]) ∧
    (touched → s.fault.captured ≠ none → s.fault.overrun = false → s.fault.secondEdge = false →
      let r : FaultRecord := { s.fault with secondEdge := true }
      s.edgeCheck a = reports (s.setFault r) [.notice (.nearFull .second r access)]) ∧
    (touched → s.fault.captured ≠ none → (s.fault.overrun = true ∨ s.fault.secondEdge = true) →
      s.edgeCheck a = s)

/-- R53, R54: SHOW FAULT reports the record and changes nothing; CLEAR FAULT, a service-class order without
parameters, empties it and reports it as it stood. -/
def Obligations.TheFaultRecordIsShownAndCleared : Prop :=
  ∀ (c tag : Byte) (p : List Byte) (s : State), s.held = false →
    let refused (code : Code) : State := reports (taken s) [.answer 0x51#8 tag code .none]
    exec (.showFault c tag []) s =
      .next (reports (taken s) [.answer 0x50#8 tag .ok (.fault s.fault)]) ∧
    (p ≠ [] → exec (.clearFault c tag p) s = .next (refused .badLength)) ∧
    (c.getLsbD 0 = false → exec (.clearFault c tag []) s = .next (refused .cls)) ∧
    (c.getLsbD 0 = true → exec (.clearFault c tag []) s =
      .next (reports ((taken s).setFault ⟨⟨false, false, false, false, false, false⟩, false, false,
        false, none⟩) [.answer 0x51#8 tag .ok (.fault s.fault)]))

/-! ### Extents and resolution -/

/-- R32, R72, R136: SHOW EXTENTS, SHOW LIST and SHOW DESCRIPTORS. -/
def Obligations.TablesAreShownAsTheyStand : Prop :=
  (∀ (c tag f k : Byte) (s : State), s.held = false →
    exec (.showExtents c tag [f, k]) s = .next (reports (taken s)
      [if 1 ≤ k.toNat ∧ k.toNat ≤ 48 ∧ f.toNat + k.toNat ≤ 48 then
        .answer 0x21#8 tag .ok
          (.extents f.toNat k.toNat ((s.extents.drop f.toNat).take k.toNat))
      else .answer 0x21#8 tag .badCount .none])) ∧
  (∀ (c tag i1 i0 k : Byte) (s : State), s.held = false →
    let i := 256 * i1.toNat + i0.toNat
    exec (.showList c tag [i1, i0, k]) s = .next (reports (taken s)
      [if ¬ (1 ≤ k.toNat ∧ k.toNat ≤ 64 ∧ i ≤ 1023) then .answer 0x31#8 tag .badCount .none
      else if s.list.loaded = false then .answer 0x31#8 tag .noMedia .none
      else .answer 0x31#8 tag .ok
        (.list s.list.entries.length s.list.next ((s.drive.facts.map Facts.spares).getD 0)
          ((s.drive.facts.map Facts.users).getD 0) s.list.dirty
          ((s.list.entries.drop i).take k.toNat))])) ∧
  ∀ (c tag g k : Byte) (s : State), s.held = false →
    exec (.showDescriptors c tag [g, k]) s = .next (reports (taken s)
      [if 1 ≤ k.toNat ∧ k.toNat ≤ 32 ∧ g.toNat + k.toNat ≤ 32 then
        .answer 0x41#8 tag .ok
          (.descriptors g.toNat k.toNat ((s.descriptors.drop g.toNat).take k.toNat))
      else .answer 0x41#8 tag .badCount .none])

/-- R30, R31: LOAD EXTENTS applies the entries in ascending number and stops with IN_USE at the first one that
is referenced. -/
def Obligations.LoadExtentsStopsAtAReferencedEntry : Prop :=
  ∀ (c tag f k : Byte) (es : List Byte) (s : State), s.held = false → c.getLsbD 0 = true →
    es.length = 8 * k.toNat → s.extents.length = 48 →
    (¬ (1 ≤ k.toNat ∧ k.toNat ≤ 48 ∧ f.toNat + k.toNat ≤ 48) →
      exec (.loadExtents c tag (f :: k :: es)) s =
        .next (reports (taken s) [.answer 0x20#8 tag .badCount .none])) ∧
    (1 ≤ k.toNat ∧ k.toNat ≤ 48 ∧ f.toNat + k.toNat ≤ 48 →
      ∃ (j : Nat) (table : List Extent), j ≤ k.toNat ∧
        (∀ i < j, ¬ Referenced s (f.toNat + i)) ∧
        (j < k.toNat → Referenced s (f.toNat + j)) ∧ table.length = 48 ∧
        (∀ i < j, table[f.toNat + i]? = some (extentOfBytes ((es.drop (8 * i)).take 8))) ∧
        (∀ i, i < f.toNat ∨ f.toNat + j ≤ i → table[i]? = s.extents[i]?) ∧
        exec (.loadExtents c tag (f :: k :: es)) s = .next (reports ((taken s).setExtents table)
          [.answer 0x20#8 tag (if j = k.toNat then .ok else .inUse) (.count j)]))

/-- R33: MARK ALL sets SI, or OI, on every valid entry and leaves everything else of the table. -/
def Obligations.MarkAllSetsTheChosenAttribute : Prop :=
  ∀ (c tag choice : Byte) (s : State), s.held = false → c.getLsbD 0 = true →
    exec (.markAll c tag [choice]) s = .next (reports
      ((taken s).setExtents (s.extents.map fun e =>
        if e.v = false then e
        else if choice.getLsbD 0 then { e with oi := true } else { e with si := true }))
      [.answer 0x22#8 tag .ok (.count (s.extents.filter fun e => e.v).length)])

/-- R18: the legal offsets of an entry and the PSA each maps to, for both directions. -/
def Obligations.LegalOffsetsMapIntoTheExtent : Prop :=
  ∀ e : Extent,
    (e.ds = false → e.low = 0 ∧ e.high = 64 * e.limit.toNat + 63) ∧
    (e.ds = true → e.low = 64 * (1023 - e.limit.toNat) ∧ e.high = 65535) ∧
    e.high + 1 = e.low + 64 * (e.limit.toNat + 1) ∧
    ∀ o, e.low ≤ o → o ≤ e.high →
      e.psa o = 64 * e.base.toNat + (o - e.low) ∧
      64 * e.base.toNat ≤ e.psa o ∧
      e.psa o + 1 ≤ 64 * e.base.toNat + 64 * (e.limit.toNat + 1)

/-- R4, R21 to R24: over a zone table that tiles the zoned area, every PSA below T lies in one zone, whose number,
track and sector the zone calculation gives, the reverse of the PSA numbering; and a block is located by it at its
own PSA, or, when that is a listed source, at its spare. -/
def Obligations.ResolutionFindsZoneTrackAndSector : Prop :=
  (∀ (zs : List Zone), ZonesTile 4 zs →
    (∀ q, q < zonesTotal zs → ∃ l z, locate zs q = some l ∧ zs[l.zone]? = some z ∧
      let start := zonesTotal (zs.take l.zone)
      start ≤ q ∧ q < start + z.tracks * z.spt ∧ l.track = z.first + (q - start) / z.spt ∧
      l.sector = (q - start) % z.spt ∧ psaOf 0 zs l.track l.sector = some q) ∧
    (∀ t sec q, psaOf 0 zs t sec = some q → q < zonesTotal zs ∧
      ∃ l, locate zs q = some l ∧ l.track = t ∧ l.sector = sec)) ∧
  ∀ (s : State) (it : WorkItem) (i e o : Nat) (f : Facts), s.drive.facts = some f →
    it.extent = some e → it.first = some o →
    s.list.entries.Pairwise (fun a b => a.source < b.source) →
    let p := (s.entry e).psa (o + i)
    (∀ x ∈ s.list.entries, x.source = p →
      s.itemPlace it i = (locate f.zones (f.users + x.spare)).map fun l =>
        { zone := l.zone, track := l.track, sector := l.sector, q := f.users + x.spare, listed := true }) ∧
    ((∀ x ∈ s.list.entries, x.source ≠ p) →
      s.itemPlace it i = (locate f.zones p).map fun l =>
        { zone := l.zone, track := l.track, sector := l.sector, q := p, listed := false })

/-! ### The replacement list and the cartridge records -/

/-- R61, R62: the outcome of an allocation call on a list in ascending order. That an unlisted block gets LIST_FULL when
the list is full and the pool is spent is R62's, and R58 says NO_SPARE there: to follow R62 is the model's reading (log
entry 33). -/
def Obligations.AllocationFollowsTheTable : Prop :=
  ∀ (spares p : Nat) (l : ReplacementList),
    l.entries.Pairwise (fun a b => a.source < b.source) →
    let listed := ∃ e ∈ l.entries, e.source = p
    (listed → l.next = spares → allocate spares p l = .failed .noSpare) ∧
    (listed → l.next ≠ spares → allocate spares p l = .spare { l with
      entries := l.entries.map fun e => if e.source = p then { e with spare := l.next } else e
      next := l.next + 1, dirty := true }) ∧
    (¬ listed → l.entries.length = 1024 → allocate spares p l = .failed .listFull) ∧
    (¬ listed → l.entries.length ≠ 1024 → l.next = spares →
      allocate spares p l = .failed .noSpare) ∧
    (¬ listed → l.entries.length ≠ 1024 → l.next ≠ spares →
      ∃ before after, l.entries = before ++ after ∧ (∀ e ∈ before, e.source < p) ∧
        (∀ e ∈ after, p < e.source) ∧
        allocate spares p l = .spare { l with
          entries := before ++ [⟨p, l.next⟩] ++ after, next := l.next + 1, dirty := true })

/-- R57, R58: a successful allocation for a user-area PSA keeps the laws of the list and raises the next-spare
index by 1. -/
def Obligations.AllocationKeepsTheListLaw : Prop :=
  ∀ (users spares p : Nat) (l l' : ReplacementList), ListLaw users spares l → p < users →
    allocate spares p l = .spare l' →
    ListLaw users spares l' ∧ l'.next = l.next + 1 ∧ lookupEntry l'.entries p = some l.next

/-- R9, R10: the image a write-back writes is read back as the list it was made from. -/
def Obligations.TheListImageReadsBack : Prop :=
  ∀ (f : Facts) (l : ReplacementList), f.users ≤ 524288 → f.spares ≤ 2048 →
    ListLaw f.users f.spares l →
    readList f ((List.range (listImage l).length).zip (listImage l)) =
      some { loaded := true, entries := l.entries, next := l.next, dirty := false, request := false }

/-- R4, R7, R8, R11, R35: a format record passes its nine tests exactly when they hold of its fields, and the facts are
then its media kind, its zones in use, T of them, and its U and S; the extent table image is one sector of 1024 bytes
that is read back as the table. -/
def Obligations.TheFormatAndExtentRecordsAreReadAsTheyStand : Prop :=
  (∀ (b : Block) (f : Facts), readFormat b = some f →
    ZonesTile 4 f.zones ∧ 1 ≤ f.zones.length ∧ f.zones.length ≤ 16 ∧
    (∀ z ∈ f.zones, 17 ≤ z.spt ∧ z.spt ≤ 40) ∧ f.total = zonesTotal f.zones ∧
    f.users + f.spares = f.total ∧ f.users ≤ 524288 ∧ f.spares ≤ 2048 ∧
    field b 0 2 = 0xC340 ∧ field b 3 2 = 1024 ∧ field b 91 2 = (crc16 (b.take 91)).toNat ∧
    field b 2 1 = (match f.kind with | .e => 1 | .d => 2 | .w => 3) ∧
    f.zones.length = field b 5 1 ∧ f.users = field b 86 3 ∧ f.spares = field b 89 2 ∧
    ∀ i < f.zones.length, f.zones[i]? = some
      ⟨field b (6 + 5 * i) 2, field b (8 + 5 * i) 2, field b (10 + 5 * i) 1⟩) ∧
  (∀ (b : Block) (kind : MediaKind),
    let zones : List Zone := (List.range (field b 5 1)).map fun i =>
      ⟨field b (6 + 5 * i) 2, field b (8 + 5 * i) 2, field b (10 + 5 * i) 1⟩
    field b 91 2 = (crc16 (b.take 91)).toNat → field b 0 2 = 0xC340 →
    field b 2 1 = (match kind with | .e => 1 | .d => 2 | .w => 3) → field b 3 2 = 1024 →
    1 ≤ field b 5 1 → field b 5 1 ≤ 16 → ZonesTile 4 zones → (∀ z ∈ zones, 17 ≤ z.spt ∧ z.spt ≤ 40) →
    field b 86 3 + field b 89 2 = zonesTotal zones → field b 86 3 ≤ 524288 → field b 89 2 ≤ 2048 →
    readFormat b = some ⟨kind, zones, zonesTotal zones, field b 86 3, field b 89 2⟩) ∧
  ∀ es : List Extent, es.length = 48 →
    ∃ b, extentImage es = [b] ∧ b.length = 1024 ∧ readExtents b = some es

/-! ### The drive -/

/-- R15, R153, R155: an insertion in EMPTY, and the spin-up timer's expiry. -/
def Obligations.InsertionAndSpinUpTimeout : Prop :=
  ∀ (s : State), s.held = false →
    (∀ tab, s.drive.state = .empty → exec (.insertion tab) s = .next
      ((s.setDrive { s.drive with
        state := .spinningUp, tab := some tab, spindle := true, spinUp := some 0, counter := 0,
        period := none, tracking := false, speed := .offSpeed, good := 0, tried := false }).setPort
        (s.port ++ [.spindleOn]))) ∧
    (∀ tab, s.drive.state ≠ .empty → exec (.insertion tab) s = .next s) ∧
    (s.drive.state = .spinningUp → s.drive.spinUp.isSome = true → s.drive.speed = .offSpeed →
      s.drive.spindle = true →
      exec .spinUpTimeout s = .next (reports
        (((s.setDrive { s.drive with
          state := .faulted, mountFault := some .spin, spinUp := none, spindle := false, counter := 0,
          period := none, tracking := false, speed := .offSpeed, good := 0 }).setHead
          { s.head with track := none, bias := .unset }).setPort (s.port ++ [.spindleOff]))
        [.notice (.mountFailed .spin)])) ∧
    (s.drive.state ≠ .spinningUp ∨ s.drive.spinUp = none ∨ s.drive.speed = .inSpeed →
      exec .spinUpTimeout s = .next s)

/-- R104, R153, R154, R159, R160, R161: an index arrival. `v` is the counter at the arrival: that an arrival
carries the microseconds since the last command is the model's choice (log entry 23). One whose `v` would be
65,535 or more loses the index first, and, like the first arrival after an index loss, clears the counter and
resumes tracking without a period. -/
def Obligations.IndexArrivalsMeasureThePeriod : Prop :=
  ∀ (s : State) (elapsed : Nat), s.held = false →
    let v := s.drive.counter + elapsed
    let good := if 16334 ≤ v ∧ v ≤ 17000 then min 2 (s.drive.good + 1) else 0
    let speed := if 16334 ≤ v ∧ v ≤ 17000 then
      (if good = 2 then SpeedStatus.inSpeed else s.drive.speed) else .offSpeed
    (s.drive.spindle = false → exec (.indexArrival elapsed) s = .next s) ∧
    (s.drive.spindle = true → 65535 ≤ v → s.drive.counter ≠ 65535 →
      ∃ lost, exec .indexLost s = .next lost ∧
        (lost.drive.spindle = true → exec (.indexArrival elapsed) s = .next (trackingResumed lost)) ∧
        (lost.drive.spindle = false → exec (.indexArrival elapsed) s = .next lost)) ∧
    (s.drive.spindle = true → s.drive.counter = 65535 → s.drive.tracking = false →
      exec (.indexArrival elapsed) s = .next (trackingResumed s)) ∧
    (s.drive.spindle = true → v < 65535 → s.drive.tracking = false →
      exec (.indexArrival elapsed) s = .next (trackingResumed s)) ∧
    (s.drive.spindle = true → v < 65535 → s.drive.tracking = true →
      ∃ t, exec (.indexArrival elapsed) s = .next t ∧ t.drive.counter = 0 ∧
        t.drive.tracking = true ∧ t.drive.period = some v ∧ t.drive.good = good ∧
        t.drive.speed = speed ∧
        (s.head.activity = .inPass → s.drive.state ≠ .spinningUp →
          t.head.revs = min 4 (s.head.revs + 1)) ∧
        (s.drive.state = .ready → t.outbound = s.outbound ++
          (if speed = s.drive.speed then []
          else [.notice (match speed with
            | .offSpeed => .speedLost (some v)
            | .inSpeed => .speedBack v)])) ∧
        (s.drive.state ≠ .ready → t.outbound = s.outbound) ∧
        (s.drive.state = .spinningUp → s.drive.speed = .offSpeed → speed = .inSpeed →
          t.drive.state = .mounting ∧ t.drive.spinUp = none ∧
          t.drive.mountSource = s.profile.extentSource ∧
          t.head.task = .controlRead .format) ∧
        (s.head.activity = .holding → s.drive.state ≠ .spinningUp → s.drive.speed = .offSpeed →
          speed = .inSpeed →
          t.head = { s.head with activity := .awaitingStart, holdTimer := none }) ∧
        (s.head.activity = .holding → s.drive.state ≠ .spinningUp → speed = .offSpeed →
          t.head = s.head))

/-- R104, R159, R160, R161: the index is lost. That NOTICE SPEED_LOST comes before the report of the task's end is
the model's choice (log entry 32), and that CREDITs follow both its reading (log entry 15). -/
def Obligations.IndexLossStopsTracking : Prop :=
  ∀ (s : State), s.held = false →
    (s.drive.spindle = false ∨ s.drive.counter = 65535 → exec .indexLost s = .next s) ∧
    (s.drive.spindle = true → s.drive.counter ≠ 65535 →
      s.head.activity ≠ .awaitingStart → s.head.activity ≠ .inPass →
      exec .indexLost s = .next (indexGone s)) ∧
    (∀ it, s.drive.spindle = true → s.drive.counter ≠ 65535 →
      (s.head.activity = .awaitingStart ∨ s.head.activity = .inPass) → Serves it s →
      ∃ t, exec .indexLost s = .next t ∧ HeadEnds .sectorMissing .none it (indexGone s) t)

/-- R149, R156: the eject button and the UNLOAD order on each drive state. That the lanes halt in ascending number is
the model's reading (log entry 25), and so is that CREDITs follow the notices (log entry 15). -/
def Obligations.EjectAndUnloadStartAnUnload : Prop :=
  ∀ (s : State) (c tag : Byte), s.held = false →
    let unloading : Drive :=
      { s.drive with state := .unloading, spinUp := none, mountFault := none, tried := false }
    let answering : Drive := { unloading with answers := s.drive.answers ++ [tag] }
    (s.drive.state = .empty ∨ s.drive.state = .unloading → exec .ejectButton s = .next s) ∧
    (s.drive.state = .empty → exec (.unload c tag []) s =
      .next (reports (taken s) [.answer 0x10#8 tag .noMedia .none])) ∧
    (s.drive.state = .unloading → exec (.unload c tag []) s =
      .next ((taken s).setDrive { s.drive with answers := s.drive.answers ++ [tag] })) ∧
    (s.drive.state = .spinningUp ∨ s.drive.state = .faulted →
      exec .ejectButton s = .next (s.setDrive unloading) ∧
      exec (.unload c tag []) s = .next ((taken s).setDrive answering)) ∧
    (s.drive.state = .mounting →
      exec .ejectButton s = .next (cut (s.setDrive unloading)) ∧
      exec (.unload c tag []) s = .next (cut ((taken s).setDrive answering))) ∧
    (s.drive.state = .ready →
      ∃ t u, exec .ejectButton s = .next t ∧ exec (.unload c tag []) s = .next u ∧
        Settled (unloadHalts (s.setDrive unloading)) t ∧
        Settled (unloadHalts ((taken s).setDrive answering)) u)

/-- R74, R157: UNLOAD_COMPLETION with the queue empty and the head free: one write-back of a loaded and dirty
list, and else the discard, the spindle, the release, NOTICE MEDIA_GONE, the answers and EMPTY. That the command
stops once the write-back is asked for, and that a second one, which finds it tried, completes, is the model's
reading (log entry 25), and so is that it waits for a write-back of an item that has ended (log entry 34). -/
def Obligations.AnUnloadCompletesInOrder : Prop :=
  ∀ (s : State), s.held = false →
    (s.drive.state ≠ .unloading ∨ s.queue ≠ [] ∨ s.head.task ≠ .none →
      exec .unloadCompletion s = .next s) ∧
    (s.drive.state = .unloading → s.queue = [] → s.head.task = .none → s.list.loaded = true →
      s.list.dirty = true → s.drive.tried = false →
      exec .unloadCompletion s = .next (writeBackBegun
        ((s.setList { s.list with request := false }).setHead
          { s.head with task := .writeBack .unload }))) ∧
    (s.drive.state = .unloading → s.queue = [] → s.head.task = .none →
      ¬ (s.list.loaded = true ∧ s.list.dirty = true ∧ s.drive.tried = false) →
      ∃ t, exec .unloadCompletion s = .next t ∧
        t.outbound = s.outbound ++
          (if s.list.loaded ∧ s.list.dirty then
            [.notice (.listLost false s.list.entries.length s.list.next)] else []) ++
          [.notice (.mediaGone false)] ++
          s.drive.answers.map (fun tag => .answer 0x10#8 tag .ok .none) ∧
        t.port = s.port ++ (if s.drive.spindle then [.spindleOff] else []) ++ [.release] ∧
        t.list = ReplacementList.unloaded ∧ t.drive.state = .empty ∧ t.drive.spindle = false ∧
        t.drive.speed = .offSpeed ∧ t.drive.facts = none ∧ t.drive.tab = none ∧
        t.drive.answers = [] ∧ t.head.track = none ∧ t.head.bias = .unset ∧
        t.extents = s.extents ∧ t.fault = s.fault ∧ t.lanes = s.lanes ∧ t.queue = [])

/-- R93, R118, R131, R149, R158: a cartridge-lost event. The items end in queue order, each FETCH with its
delivered blocks first, whose data frames join the outbound sequence within the event (the model's choice, log entry
35), each lane item at its lane; then the lanes that are still ACTIVE halt, in ascending number (the model's reading,
log entry 25), and the drive's own notices and answers follow. -/
def Obligations.ALostCartridgeEmptiesTheDrive : Prop :=
  ∀ (s : State), s.held = false →
    (s.drive.state = .empty → exec .cartridgeLost s = .next s) ∧
    (s.drive.state ≠ .empty → (s.queue.map WorkItem.id).Nodup →
      let items := lossOfAll s.slots s.queue s.lanes
      ∃ t, exec .cartridgeLost s = .next t ∧ t.queue = [] ∧
        t.outbound = s.outbound ++ items.1 ++ lossHalts items.2 ++
          (if s.list.loaded ∧ s.list.dirty then
            [.notice (.listLost true s.list.entries.length s.list.next)] else []) ++
          [.notice (.mediaGone true)] ++
          s.drive.answers.map (fun tag => .answer 0x10#8 tag .ok .none) ∧
        t.lanes = (items.2.mapIdx fun n l =>
          if n < 4 ∧ l.state = .active then
            { l with state := .halted, halt := some (.outcome .mediaGone .none), pendingPost := none }
          else l) ∧
        t.slots = freeItemSlots (s.queue.map WorkItem.id) s.slots ∧
        t.list = ReplacementList.unloaded ∧
        t.drive.state = .empty ∧ t.drive.spindle = false ∧ t.drive.speed = .offSpeed ∧
        t.drive.facts = none ∧ t.drive.tab = none ∧ t.drive.mountFault = none ∧
        t.drive.answers = [] ∧ t.head = Head.reset ∧ t.dataTimer = none ∧
        t.port = s.port ++ (if s.drive.spindle then [.spindleOff] else []) ∧
        t.extents = s.extents ∧ t.fault = s.fault ∧ t.profile = s.profile ∧
        t.descriptors = s.descriptors)

/-- R94, R117, R132, R151, R177: RESTART. A control read in flight is begun again from the beginning of its record:
the list image's from its header (the model's reading, log entry 20). -/
def Obligations.RestartClearsTheWorkInProgress : Prop :=
  ∀ (c tag : Byte) (s : State), s.held = false → c.getLsbD 0 = true →
    ∃ t, exec (.restart c tag []) s = .next t ∧ t.queue = [] ∧
      t.slots.length = s.slots.length ∧ (∀ x ∈ t.slots, x.state = .free ∧ x.holder = none) ∧
      t.lanes = s.lanes.map (fun l =>
        { l with state := .idle, pendingPost := none, halt := none, stops := [] }) ∧
      t.fault = FaultRecord.empty ∧ t.list = { s.list with request := false } ∧
      t.drive = { s.drive with answers := [] } ∧ t.profile = s.profile ∧ t.extents = s.extents ∧
      t.descriptors = s.descriptors ∧ t.dataTimer = none ∧ t.head.bias = .unset ∧
      t.outbound = s.outbound ++ [.answer 0x62#8 tag .ok .none] ∧
      t.head.track = (if s.head.activity = .seeking then none else s.head.track) ∧
      (∀ r, s.head.task = .controlRead r →
        let again : ControlRead := match r with
          | .listEntries => .listHeader
          | .format => .format
          | .listHeader => .listHeader
          | .extents => .extents
        let track := match again with
          | .format => 0
          | .listHeader => 1
          | .listEntries => 1
          | .extents => 2
        t.head.task = .controlRead again ∧ t.head.pass = .read ∧ t.head.later = [] ∧
        t.head.run = some ⟨track, [⟨0, 0, .toAct, false, 0⟩], .control⟩ ∧ t.head.readIn = [] ∧
        t.head.wrongTracks = 0 ∧
        (t.head.track = some track → t.head.activity = .awaitingStart ∧ t.port = s.port) ∧
        (t.head.track ≠ some track → t.head.activity = .seeking ∧ t.head.seekIssues = 1 ∧
          t.head.seekTimer = some 0 ∧ t.port = s.port ++ [.seek track])) ∧
      ((∀ r, s.head.task ≠ .controlRead r) →
        t.head = { Head.reset with track := t.head.track } ∧ t.port = s.port)

/-- R174, R175, R176: SET PROFILE changes the selected fields, answers them, and raises the write-back request on a
switch to IMMEDIATE over a loaded, dirty list in READY; SHOW STATE reports the state of every block. -/
def Obligations.TheProfileIsSetAndTheStateShown : Prop :=
  (∀ (c tag x v u : Byte) (s : State), s.held = false → c.getLsbD 0 = true →
    let new : Profile :=
      { extentSource := if x.toNat % 4 = 1 then .link else if x.toNat % 4 = 2 then .cartridge
          else s.profile.extentSource
        verify := if v.toNat % 4 = 1 then true else if v.toNat % 4 = 2 then false
          else s.profile.verify
        listUpdate := if u.toNat % 4 = 1 then .immediate else if u.toNat % 4 = 2 then .deferred
          else s.profile.listUpdate }
    exec (.setProfile c tag [x, v, u]) s = .next (reports
      (((taken s).setProfile new).setList { s.list with
        request := s.list.request || (decide (s.profile.listUpdate = .deferred) &&
          decide (new.listUpdate = .immediate) && decide (s.drive.state = .ready) &&
          s.list.loaded && s.list.dirty) })
      [.answer 0x60#8 tag .ok (.profile new)])) ∧
  ∀ (c tag : Byte) (s : State), s.held = false →
    exec (.showState c tag []) s = .next (reports (taken s) [.answer 0x61#8 tag .ok (.state
      { drive := s.drive.state
        mountFault := if s.drive.state = .faulted then s.drive.mountFault else none
        kind := s.drive.facts.map Facts.kind, tab := s.drive.tab
        users := (s.drive.facts.map Facts.users).getD 0
        spares := (s.drive.facts.map Facts.spares).getD 0
        speed := s.drive.speed, period := s.drive.period, bias := s.head.bias
        free := (s.slots.filter fun x => decide (x.state = .free)).length
        profile := s.profile, fault := s.fault.state, loaded := s.list.loaded
        dirty := s.list.dirty, listCount := s.list.entries.length
        lanes := [0, 1, 2, 3].map fun n =>
          ⟨s.lane n, (s.queue.filter fun it => decide (it.route = .lane n)).length⟩
        items := s.queue.map fun it => (it.route, it.kind, it.state) })])

/-! ### Lanes and descriptors -/

/-- R29, R39, R46, R48, R50, R134, R139, R140: START LANE, its checks in order and the lane it starts. On a HELD
record a violation overruns; that the CREDITs come after the notice and the refusal is the model's reading (log
entry 15). -/
def Obligations.StartLaneChecksAndStarts : Prop :=
  ∀ (c tag n g : Byte) (s : State), s.held = false →
    let refused (code : Code) : State := reports (taken s) [.answer 0x11#8 tag code .none]
    let run := exec (.startLane c tag [n, g]) s
    let lane := s.lane n.toNat
    let d := s.descriptorAt g.toNat
    let cls : OrderClass := if c.getLsbD 0 then .service else .ordinary
    let a := d.footprint cls n.toNat
    let causes := s.causes a
    let numbers := n.toNat < 4 ∧ g.toNat < 32
    let free := (lane.state = .idle ∨ lane.state = .halted) ∧ lane.stops = [] ∧
      ∀ it ∈ s.queue, it.route ≠ .lane n.toNat
    (¬ numbers → run = .next (refused .badCount)) ∧
    (numbers → s.drive.state = .unloading → run = .next (refused .unloading)) ∧
    (numbers → s.drive.state ≠ .ready → s.drive.state ≠ .unloading →
      run = .next (refused .noMedia)) ∧
    (numbers → s.drive.state = .ready → s.drive.tab = some true →
      run = .next (refused .writeProtected)) ∧
    (numbers → s.drive.state = .ready → s.drive.tab ≠ some true → ¬ free →
      run = .next (refused .laneBusy)) ∧
    (numbers → s.drive.state = .ready → s.drive.tab ≠ some true → free → d.startable = false →
      run = .next (refused .badDescriptor)) ∧
    (numbers → s.drive.state = .ready → s.drive.tab ≠ some true → free → d.startable = true →
      causes ≠ CauseSet.empty →
      let answered := reports (violated none a causes (taken s))
        [.answer 0x11#8 tag .violation (.causes causes)]
      (¬ FaultHeld s → run = .next answered) ∧
      (FaultHeld s → ∃ t, run = .next t ∧ Settled answered t)) ∧
    (numbers → s.drive.state = .ready → s.drive.tab ≠ some true → free → d.startable = true →
      causes = CauseSet.empty → beyondUsers s.drive.facts (s.entry a.extent) a = true →
      run = .next (refused .beyondMedia)) ∧
    (numbers → s.drive.state = .ready → s.drive.tab ≠ some true → free → d.startable = true →
      causes = CauseSet.empty → beyondUsers s.drive.facts (s.entry a.extent) a = false →
      run = .next (reports ((taken s).setLanes (s.lanes.set n.toNat
        { state := .active, descriptor := g.toNat, offset := d.start.toNat,
          remaining := d.count.toNat, nextIndex := 0, completed := 0, pendingPost := none,
          cls := cls, halt := none, stops := [] })) [.answer 0x11#8 tag .ok .none]))

/-- R84, R92, R146: STOP LANE on each lane state. That the CREDITs come after the ANSWER is the model's reading
(log entry 15). -/
def Obligations.StopLaneStopsOrDrains : Prop :=
  ∀ (c tag n : Byte) (s : State), s.held = false →
    let run := exec (.stopLane c tag [n]) s
    let lane := s.lane n.toNat
    let answer := Frame.answer 0x12#8 tag .ok (.stopped n.toNat lane.descriptor lane.completed)
    (¬ n.toNat < 4 → run = .next (reports (taken s) [.answer 0x12#8 tag .badCount .none])) ∧
    (n.toNat < 4 → s.lanes.length = 4 →
      (lane.state = .idle ∨ lane.state = .halted ∧ lane.stops = [] →
        run = .next (reports ((taken s).setLanes
          (s.lanes.set n.toNat { lane with state := .idle, halt := none })) [answer])) ∧
      (lane.state = .draining ∨ lane.state = .halted ∧ lane.stops ≠ [] →
        run = .next ((taken s).setLanes
          (s.lanes.set n.toNat { lane with stops := lane.stops ++ [tag] }))) ∧
      (lane.state = .active →
        let left := withoutWaiting (fun m => m == n.toNat) (taken s)
        ∃ t, run = .next t ∧
          ((∀ it ∈ s.queue, it.route = .lane n.toNat → it.state = .waiting) →
            Settled (reports (left.setLanes (s.lanes.set n.toNat
              { lane with state := .idle, halt := none, pendingPost := none })) [answer]) t) ∧
          ((∃ it ∈ s.queue, it.route = .lane n.toNat ∧ it.state ≠ .waiting) →
            Settled (left.setLanes (s.lanes.set n.toNat
              { lane with state := .draining, stops := lane.stops ++ [tag], pendingPost := none })) t)))

/-- R28, R43, R48, R50, R83, R84, R141, R142: LANE_POST. A lane that may not post changes nothing; a clean piece
below U raises its edge event, if any, and takes a place or becomes the pending post, the position advancing
either way; a violation and a piece that reaches U halt the lane with its position kept, the overrun of a HELD
record without a notice of the lane. That a clean piece that reaches U raises no edge event is the model's choice
(log entry 30), and that the CREDITs come after the notices is its reading (log entry 15). -/
def Obligations.LanePostsItsNextPiece : Prop :=
  ∀ (n : Nat) (s : State), s.held = false → s.lanes.length = 4 →
    let lane := s.lane n
    let d := s.descriptorAt lane.descriptor
    let may := n < 4 ∧ lane.state = .active ∧
      (s.queue.filter fun it => decide (it.route = .lane n)).length < 2 ∧
      lane.pendingPost = none ∧ 0 < lane.remaining ∧ d.mode ≠ .none
    let banded := d.mode = .band ∨ d.mode = .ring
    let count := if banded then d.band.toNat else min 256 lane.remaining
    let a : Access := { kind := .lanePost, cls := lane.cls, route := .lane n
                        extent := d.extent.toNat, first := lane.offset
                        last := lane.offset + count - 1 }
    let causes := s.causes a
    let beyond := beyondUsers s.drive.facts (s.entry a.extent) a
    let moved : Lane := { lane with
      offset := lane.offset + (if banded then d.stride.toNat else count)
      remaining := lane.remaining - (if banded then 1 else count)
      nextIndex := (lane.nextIndex + count) % 65536 }
    let waiting := 8 ≤ s.queue.length ∨ ∃ m < 4, (s.lane m).pendingPost ≠ none
    let edge := s.edgeCheck a
    (¬ may → exec (.lanePost n) s = .next s) ∧
    (may → causes = CauseSet.empty → beyond = false → waiting →
      exec (.lanePost n) s = .next (edge.setLanes (s.lanes.set n
        { moved with pendingPost := some ⟨d.extent.toNat, lane.offset, count, lane.nextIndex⟩ }))) ∧
    (may → causes = CauseSet.empty → beyond = false → ¬ waiting →
      let it := pieceItem s s.nextId n ⟨d.extent.toNat, lane.offset, count, lane.nextIndex⟩
      ∃ t, exec (.lanePost n) s = .next t ∧ Settled (joins it (edge.setLanes (s.lanes.set n moved))) t) ∧
    (may → causes = CauseSet.empty → beyond = true →
      ∃ t, exec (.lanePost n) s = .next t ∧ Settled (laneHalts n lane .beyondMedia s) t) ∧
    (may → causes ≠ CauseSet.empty → ¬ FaultHeld s →
      ∃ t, exec (.lanePost n) s = .next t ∧
        Settled (laneHalts n lane (.causes causes) (violated (some n) a causes s)) t) ∧
    (may → causes ≠ CauseSet.empty → FaultHeld s →
      ∃ t, exec (.lanePost n) s = .next t ∧ Settled (violated (some n) a causes s) t)

/-- R83, R84, R121: one free place goes to the lowest pending lane, with the verify setting as it then stands, and the
walk follows; nothing else changes. The events
that free places give them already, so that in a run PENDING_POST_PLACED finds none due (the model's reading, log
entry 13). -/
def Obligations.AFreePlaceGoesToTheLowestPendingLane : Prop :=
  ∀ (s : State), s.held = false → s.lanes.length = 4 →
    ((8 ≤ s.queue.length ∨ ∀ n < 4, (s.lane n).pendingPost = none) →
      exec .pendingPostPlaced s = .next s) ∧
    (∀ n p, n < 4 → s.queue.length < 8 → (s.lane n).pendingPost = some p →
      (∀ m < n, (s.lane m).pendingPost = none) →
      ∃ t, exec .pendingPostPlaced s = .next t ∧
        Walked (joins (pieceItem s s.nextId n p)
          (s.setLanes (s.lanes.set n { s.lane n with pendingPost := none }))) t)

/-- R90, R143 to R147, R150: what the Lane Engine does with the result of a lane item. `loss` is true at a
cartridge loss, where a halt removes no item (R149). What a link byte above 31 and a notify byte above 1 mean is the
model's reading (log entry 27). -/
def Obligations.TheLaneEngineTakesTheResultOfItsItem : Prop :=
  ∀ (s : State) (loss : Bool) (r : LaneItemResult), r.lane < 4 → s.lanes.length = 4 →
    let n := r.lane
    let lane := s.lane n
    let d := s.descriptorAt lane.descriptor
    let l : Lane := { lane with completed := lane.completed + r.blocksDone }
    let result := s.laneResult loss r
    let last := l.remaining = 0 ∧ (∀ it ∈ s.queue, it.route ≠ .lane n) ∧ l.pendingPost = none
    let told := if d.notify = 1#8 then
      reports (s.setLane n l) [.notice (.laneDone n l.descriptor l.completed)] else s.setLane n l
    (lane.state = .idle ∨ lane.state = .halted ∧ lane.stops = [] → result = s.setLane n l) ∧
    (lane.state = .draining ∨ lane.state = .halted ∧ lane.stops ≠ [] →
      result = reports (s.setLane n { l with state := .idle, halt := none, stops := [] })
        (lane.stops.map fun tag => .answer 0x12#8 tag .ok (.stopped n l.descriptor l.completed))) ∧
    (lane.state = .active → r.outcome ≠ .ok →
      let cause := HaltCause.outcome r.outcome r.cause
      (loss = false → result = laneHalts n l cause s) ∧
      (loss = true → result = reports
        (s.setLane n { l with state := .halted, halt := some cause, pendingPost := none })
        [.notice (.laneHalted n l.descriptor cause l.completed)])) ∧
    (lane.state = .active → r.outcome = .ok → ¬ last → result = s.setLane n l) ∧
    (lane.state = .active → r.outcome = .ok → last → d.mode = .ring →
      result = told.setLane n
        { l with offset := d.start.toNat, remaining := d.count.toNat, completed := 0 }) ∧
    (lane.state = .active → r.outcome = .ok → last → d.mode ≠ .ring → 32 ≤ d.link.toNat →
      result = told.setLane n { l with state := .idle }) ∧
    (lane.state = .active → r.outcome = .ok → last → d.mode ≠ .ring → d.link.toNat < 32 →
      let g := d.link.toNat
      let y := s.descriptorAt g
      let a := y.footprint l.cls n
      let causes := s.causes a
      let linked : Lane := { l with descriptor := g, completed := 0 }
      (y.startable = false → result = laneHalts n linked .badDescriptor told) ∧
      (y.startable = true → causes ≠ CauseSet.empty → ¬ FaultHeld s →
        result = laneHalts n linked (.causes causes) (violated (some n) a causes told)) ∧
      (y.startable = true → causes ≠ CauseSet.empty → FaultHeld s →
        result = violated (some n) a causes (told.setLane n linked)) ∧
      (y.startable = true → causes = CauseSet.empty →
        beyondUsers s.drive.facts (s.entry a.extent) a = true →
        result = laneHalts n linked .beyondMedia told) ∧
      (y.startable = true → causes = CauseSet.empty →
        beyondUsers s.drive.facts (s.entry a.extent) a = false →
        result = told.setLane n
          { linked with offset := y.start.toNat, remaining := y.count.toNat }))

/-- R135: LOAD DESCRIPTORS applies the descriptors in ascending number and stops with IN_USE at the first held
one. -/
def Obligations.LoadDescriptorsStopsAtAHeldDescriptor : Prop :=
  ∀ (c tag g k : Byte) (ds : List Byte) (s : State), s.held = false → c.getLsbD 0 = true →
    ds.length = 12 * k.toNat → s.descriptors.length = 32 →
    (¬ (1 ≤ k.toNat ∧ k.toNat ≤ 32 ∧ g.toNat + k.toNat ≤ 32) →
      exec (.loadDescriptors c tag (g :: k :: ds)) s =
        .next (reports (taken s) [.answer 0x40#8 tag .badCount .none])) ∧
    (1 ≤ k.toNat ∧ k.toNat ≤ 32 ∧ g.toNat + k.toNat ≤ 32 →
      ∃ (j : Nat) (table : List Descriptor), j ≤ k.toNat ∧
        (∀ i < j, ¬ DescriptorHeld s (g.toNat + i)) ∧
        (j < k.toNat → DescriptorHeld s (g.toNat + j)) ∧ table.length = 32 ∧
        (∀ i < j, table[g.toNat + i]? = some (descriptorOfBytes ((ds.drop (12 * i)).take 12))) ∧
        (∀ i, i < g.toNat ∨ g.toNat + j ≤ i → table[i]? = s.descriptors[i]?) ∧
        exec (.loadDescriptors c tag (g :: k :: ds)) s =
          .next (reports ((taken s).setDescriptors table)
            [.answer 0x40#8 tag (if j = k.toNat then .ok else .inUse) (.count j)]))

/-! ### The head -/

/-- R71, R86, R98 to R100, R116, R127: taking up the front item, for each kind of item. That CREDITs follow the DONE of
a FLUSH on a clean list is the model's reading (log entry 15). -/
def Obligations.TheHeadTakesUpTheFrontItem : Prop :=
  ∀ (s : State) (it : WorkItem) (rest : List WorkItem), s.held = false → s.queue = it :: rest →
    let serving := { it with state := .inService }
    let served := (s.setQueue (serving :: rest)).setHead { s.head with task := .item }
    let next := slotState it.id it.blocksDone s.slots
    let placed := it.blocksDone < it.count ∧ (s.itemPlace it it.blocksDone).isSome = true
    (it.state ≠ .waiting ∨ s.head.task ≠ .none ∨ s.list.request = true →
      exec .itemTakeUp s = .next s) ∧
    (it.state = .waiting → s.head.task = .none → s.list.request = false →
      (it.kind = .place → s.drive.facts.isSome = true → next ≠ .full →
        exec .itemTakeUp s = .next ((served.setHead { served.head with
          activity := .waitingData, run := none }).setDataTimer (some 0))) ∧
      (∀ f, it.kind = .place → s.drive.facts = some f → next = .full → placed →
        ∃ r, RunFormed served serving (fun k => slotState it.id k s.slots = .full) r ∧
          exec .itemTakeUp s = .next (runBegun r (placePasses f.kind it.snapshot).1
            (placePasses f.kind it.snapshot).2 served)) ∧
      (it.kind = .fetch → s.drive.facts.isSome = true → next ≠ .reading →
        exec .itemTakeUp s = .next (served.setHead { served.head with
          activity := .waitingSlot, run := none })) ∧
      (it.kind = .fetch → s.drive.facts.isSome = true → next = .reading → placed →
        ∃ r, RunFormed served serving (fun k => slotState it.id k s.slots = .reading) r ∧
          exec .itemTakeUp s = .next (runBegun r .read [] served)) ∧
      (it.kind = .blank → s.drive.facts.isSome = true → placed →
        ∃ r, RunFormed served serving (fun _ => True) r ∧
          exec .itemTakeUp s = .next (runBegun r .erase [.blankCheck] served)) ∧
      (it.kind = .store → exec .itemTakeUp s = .next
        (runBegun ⟨2, [⟨0, 0, .toAct, false, 0⟩], .store⟩ .erase [.write, .verify] served)) ∧
      (it.kind = .flush → s.list.dirty = true →
        exec .itemTakeUp s = .next (writeBackBegun served)) ∧
      (it.kind = .flush → s.list.dirty = false →
        ∃ t, exec .itemTakeUp s = .next t ∧ ItemEnds .ok .none { it with blocksDone := 1 } s t))

/-- R35, R67 to R71, R74, R109, R114, R116: the write-back request is served when the head is free; a control
write whose every sector matches succeeds, and one that a rule ends or whose verify fails, a result that its sector ID
has overtaken included (log entry 17), does not; the STORE or
FLUSH item ends with it, a write-back inside an item goes on to the rewrite, and a list write-back clears the dirty
flag on success, and on failure reports NOTICE LIST_WRITE_FAILED, or, for the unload, only counts as tried (the
model's reading, log entry 25). That at an index loss in READY NOTICE SPEED_LOST comes before LIST_WRITE_FAILED or the
report of the item's end is the model's choice (log entry 32); CREDITs follow a DONE (log entry 15). -/
def Obligations.ControlWritesAreServedToTheirEnd : Prop :=
  ∀ (s : State), s.held = false →
    (s.list.request = false ∨ s.head.task ≠ .none →
      exec .writeBackRequestServed s = .next s) ∧
    (s.list.request = true → s.head.task = .none → s.list.dirty = false →
      exec .writeBackRequestServed s = .next (s.setList { s.list with request := false })) ∧
    (s.list.request = true → s.head.task = .none → s.list.dirty = true →
      exec .writeBackRequestServed s = .next (writeBackBegun
        ((s.setList { s.list with request := false }).setHead
          { s.head with task := .writeBack .request }))) ∧
    ∀ (i : Instr) (r : Run), s.head.run = some r →
      let clean := s.setList { s.list with dirty := false }
      let succeeds := s.head.pass = .verify ∧ ∃ before t after, InPass s .verify r ∧
        LastAwaited r before t after ∧ i = .verifyCompareResult r.track t.sector true ∧
        ∀ x ∈ before ++ after, x.stage = .good
      let differs := ∃ before t after, InPass s .verify r ∧ LastAwaited r before t after ∧
        (ResultFails (.verifyCompareResult r.track t.sector false) r t i ∨
          i = .verifyCompareResult r.track t.sector true ∧ ∃ x ∈ before ++ after, x.stage = .bad)
      (∀ it, succeeds → r.work = .store → s.head.task = .item → s.queue.head? = some it →
        it.kind = .store →
        ∃ u, exec i s = .next u ∧ ItemEnds .ok .none { it with blocksDone := 1 } s u) ∧
      (∀ it, succeeds → r.work = .listImage → s.head.task = .item → s.queue.head? = some it →
        it.kind = .flush →
        ∃ u, exec i s = .next u ∧ ItemEnds .ok .none { it with blocksDone := 1 } clean u) ∧
      (∀ it f k ks p, succeeds → r.work = .listImage → s.head.task = .item →
        s.queue.head? = some it → it.kind = .place → s.head.failing = k :: ks →
        s.drive.facts = some f → s.itemPlace it k = some p →
        exec i s = .next (rewriteBegun f k p (clean.setHead { s.head with image := [] }))) ∧
      (∀ w, succeeds → r.work = .listImage → s.head.task = .writeBack w →
        exec i s = .next (idle clean)) ∧
      ∀ (o : ItemOutcome) (c : WriteCause) (s' : State),
        (HeadFails s i o s' ∧ c = .none ∨ differs ∧ o = .writeFailed ∧ c = .verify ∧ s' = s) →
        let noticed := reports s'
          [.notice (.listWriteFailed s.list.entries.length s.list.next o c)]
        (∀ it, r.work = .store → s.head.task = .item → s.queue.head? = some it → it.kind = .store →
          ∃ u, exec i s = .next u ∧ ItemEnds o c it s' u) ∧
        (∀ it, r.work = .listImage → s.head.task = .item → s.queue.head? = some it →
          it.kind = .flush → ∃ u, exec i s = .next u ∧ ItemEnds o c it noticed u) ∧
        (∀ it f k ks p, r.work = .listImage → s.head.task = .item → s.queue.head? = some it →
          it.kind = .place → s.head.failing = k :: ks → s.drive.facts = some f →
          s.itemPlace it k = some p →
          exec i s = .next (rewriteBegun f k p (noticed.setHead { s'.head with image := [] }))) ∧
        (∀ w, r.work = .listImage → s.head.task = .writeBack w →
          exec i s = .next (if w = .unload then
            idle (s'.setDrive { s'.drive with tried := true }) else idle noticed))

/-- R6, R8, R10, R11, R36, R73, R103, R112, R115, R154, R155: the control reads of a mount, each with its last sector
delivered, which ends the read or, where a sector may be read again, begins a new round; or ended by a rule or by a
sector uncorrectable three times, by its result or by its sector ID that comes again (the model's reading, log entry
17). That a second wrong-track event leaves the head track unknown is the model's reading (log entry 16). -/
def Obligations.ControlReadsServeTheMount : Prop :=
  ∀ (s : State) (i : Instr) (r : Run) (c : ControlRead) (f : Facts), s.held = false →
    s.head.task = .controlRead c → s.head.run = some r → (c ≠ .format → s.drive.facts = some f) →
    (∀ before t after d n, r.work = .control → InPass s .read r → LastAwaited r before t after →
      (∀ x ∈ before ++ after, x.stage = .good) →
      i = .readDataEvent r.track t.sector (.delivered d n) →
      let sectors := s.head.readIn ++ [(t.sector, d)]
      let record := sectorData 0 sectors
      (c = .format → readFormat record = none → exec i s = .next (mountFailed .format (idle s))) ∧
      (∀ g, c = .format → readFormat record = some g → exec i s = .next
        (readBegun .listHeader 1 0 1 [] ((idle s).setDrive { s.drive with facts := some g }))) ∧
      (c = .listHeader → (headerCount record = none ∨ headerCount record = some 0) →
        exec i s = .next (listTaken f sectors (idle s))) ∧
      (∀ k, c = .listHeader → headerCount record = some k → 0 < k → exec i s = .next
        (readBegun .listEntries 1 1 ((k + 127) / 128) sectors (idle s))) ∧
      (c = .listEntries → exec i s = .next (listTaken f sectors (idle s))) ∧
      (c = .extents → exec i s = .next (match readExtents record with
        | some es => mounted f ((idle s).setExtents es)
        | none => mountedWithoutTable f (idle s)))) ∧
    (∀ before t after d n, r.work = .control → InPass s .read r → LastAwaited r before t after →
      (∃ x ∈ before ++ after, Retried x) →
      exec (.readDataEvent r.track t.sector (.delivered d n)) s = .next (s.setHead
        { roundAgain r (before ++ { t with stage := .good, seen := true } :: after) s with
          readIn := s.head.readIn ++ [(t.sector, d)] })) ∧
    (∀ before t after res, r.work = .control → InPass s .read r → LastAwaited r before t after →
      (∀ x ∈ before ++ after, ¬ Retried x) →
      (res = .uncorrectable ∧ 2 ≤ t.attempts ∨
        res ≠ .uncorrectable ∧ ∃ x ∈ before ++ after, x.stage = .bad) →
      exec (.readDataEvent r.track t.sector res) s = .next (recordFailed f c s)) ∧
    (∀ before t after blank, r.work = .control → InPass s .read r → LastAwaited r before t after →
      (∀ x ∈ before ++ after, ¬ Retried x) → 2 ≤ t.attempts →
      exec (.sectorIdArrival r.track t.sector blank) s = .next (recordFailed f c s)) ∧
    (∀ o s', HeadFails s i o s' → exec i s = .next (recordFailed f c s'))

/-- R101, R105, R106: the seek-complete event and the seek timer. That any seek-complete ends the seek in flight,
one left over from an abandoned seek included, is the model's choice (log entry 31); CREDITs follow a DONE (log entry
15). -/
def Obligations.SeeksCompleteOrAreIssuedAgain : Prop :=
  ∀ (s : State) (r : Run), s.held = false →
    (s.head.activity ≠ .seeking →
      exec .seekComplete s = .next s ∧ exec .seekTimeout s = .next s) ∧
    (s.head.activity = .seeking → s.head.run = some r →
      let arrived := s.setHead { s.head with track := some r.track, seekTimer := none }
      (BiasMet s → (s.head.pass.gated = false ∨ s.drive.speed = .inSpeed) →
        exec .seekComplete s = .next
          (arrived.setHead { arrived.head with activity := .awaitingStart })) ∧
      (BiasMet s → s.head.pass.gated = true → s.drive.speed = .offSpeed →
        exec .seekComplete s = .next
          (arrived.setHead { arrived.head with activity := .holding, holdTimer := some 0 })) ∧
      (∀ b, s.passBias = some b → s.head.bias ≠ b →
        exec .seekComplete s = .next
          ((arrived.setHead { arrived.head with
            bias := .switching, activity := .biasing, biasTimer := some 0 }).setPort
            (s.port ++ [.switchBias b]))) ∧
      (s.head.seekIssues = 1 →
        exec .seekTimeout s = .next
          ((s.setHead { s.head with seekIssues := 2, seekTimer := some 0 }).setPort
            (s.port ++ [.seek r.track]))) ∧
      (∀ it, s.head.seekIssues = 2 → Serves it s →
        ∃ t, exec .seekTimeout s = .next t ∧
          HeadEnds .seekFailed .none it (s.setHead { s.head with track := none }) t))

/-- R105: the bias-ready event and the bias timer. That any bias-ready ends the switch in flight, one left over
from an abandoned switch included, is the model's choice (log entry 31); CREDITs follow a DONE (log entry 15). -/
def Obligations.BiasSwitchesCompleteOrFail : Prop :=
  ∀ (s : State), s.held = false →
    (s.head.activity ≠ .biasing →
      exec .biasReady s = .next s ∧ exec .biasTimeout s = .next s) ∧
    (∀ b, s.head.activity = .biasing → s.head.bias = .switching → s.passBias = some b →
      exec .biasReady s = .next (s.setHead
        (if s.head.pass.gated = true ∧ s.drive.speed = .offSpeed then
          { s.head with bias := b, biasTimer := none, activity := .holding, holdTimer := some 0 }
        else { s.head with bias := b, biasTimer := none, activity := .awaitingStart }))) ∧
    (∀ it, s.head.activity = .biasing → Serves it s →
      ∃ t, exec .biasTimeout s = .next t ∧
        HeadEnds .biasFailed .none it (s.setHead { s.head with bias := .unset }) t)

/-- R104, R106: the hold timer ends the task SPINDLE, and a target not seen when the revolution count has
reached 4 ends it SECTOR_MISSING; CREDITs follow a DONE (log entry 15). -/
def Obligations.HoldsAndMissingSectorsEndTheItem : Prop :=
  ∀ (s : State), s.held = false →
    let overdue := s.head.activity = .inPass ∧ s.head.revs = 4 ∧
      ∃ t ∈ s.head.targets, t.seen = false
    (s.head.activity ≠ .holding → exec .holdTimeout s = .next s) ∧
    (¬ overdue → exec .sectorMissing s = .next s) ∧
    (∀ it, s.head.activity = .holding → Serves it s →
      ∃ t, exec .holdTimeout s = .next t ∧ HeadEnds .spindle .none it s t) ∧
    (∀ it, overdue → Serves it s →
      ∃ t, exec .sectorMissing s = .next t ∧ HeadEnds .sectorMissing .none it s t)

/-- R35, R96, R102, R103, R106 to R108, R112, R116: sector ID arrivals. They are passed over while the head waits for
something else; a wrong track re-seeks once, before the pass or in it, and ends the item the second time, the head
track then unknown (the model's reading, log entry 16); an arrival that would begin an erase or write pass off
speed holds it. Any other arrival that may begin the pass does, with revolution count 0, and is itself the pass's first
(`inItsPass`; a STORE composes its image as its write pass begins, log entry 18): an arrival of no target, of one dealt
with, or of one above a target still to be acted on, does nothing more, and one of the next target acts on it,
with the data the pass records or expects there. CREDITs follow a DONE (log entry 15). -/
def Obligations.SectorIdArrivalsDriveThePass : Prop :=
  ∀ (s : State) (r : Run) (track sector : Nat) (blank : Bool), s.held = false →
    let arrival := exec (.sectorIdArrival track sector blank) s
    let starting := s.head.activity = .awaitingStart
    let passing := s.head.activity = .inPass ∧ s.passOverdue = false
    let s' := inItsPass r s
    (s.head.activity ≠ .awaitingStart → s.head.activity ≠ .inPass → arrival = .next s) ∧
    (s.head.run = some r → (starting ∨ passing) → track ≠ r.track → s.head.wrongTracks = 0 →
      arrival = .next ((s.setHead { s.head with
        wrongTracks := 1, track := none, activity := .seeking, seekIssues := 1
        seekTimer := some 0 }).setPort (s.port ++ [.seek r.track]))) ∧
    (∀ it, s.head.run = some r → (starting ∨ passing) → track ≠ r.track → s.head.wrongTracks ≠ 0 →
      Serves it s →
      ∃ t, arrival = .next t ∧
        HeadEnds .seekFailed .none it (s.setHead { s.head with track := none }) t) ∧
    (s.head.run = some r → starting → track = r.track → s.head.pass.gated = true →
      s.drive.speed = .offSpeed →
      arrival = .next (s.setHead { s.head with activity := .holding, holdTimer := some 0 })) ∧
    (s.head.run = some r → ArrivalCounts s → track = r.track → (∀ x ∈ r.targets, x.sector ≠ sector) →
      arrival = .next s') ∧
    (∀ before t after, s.head.run = some r → ArrivalCounts s → track = r.track → sector = t.sector →
      r.targets = before ++ t :: after → (∀ x ∈ before ++ after, x.sector ≠ t.sector) →
      (t.stage = .good ∨ t.stage = .bad ∨
        t.stage = .toAct ∧ ∃ x ∈ before, x.stage = .toAct ∧ x.sector < t.sector) →
      arrival = .next s') ∧
    (∀ before t after, s.head.run = some r → ArrivalCounts s → track = r.track → sector = t.sector →
      NextToAct r before t after →
      let further := ∃ x ∈ before ++ after, x.stage = .toAct ∨ x.stage = .awaiting
      let data := if r.work = .blocks ∨ r.work = .rewrite then
          (s.queue.head?.map fun it => slotData it.id t.block s.slots).getD zeroBlock
        else s'.head.image.getD t.sector zeroBlock
      let acted (stage : Stage) : State :=
        s'.setHead (withTargets r (before ++ { t with stage := stage, seen := true } :: after) s')
      let acts (stage : Stage) (action : PortAction) : State :=
        (acted stage).setPort (s.port ++ [action])
      (s.head.pass = .verify → arrival = .next (acts .awaiting (.compare track sector data))) ∧
      (s.head.pass = .read → arrival = .next (acts .awaiting (.read track sector))) ∧
      (s.head.pass = .erase → further → arrival = .next (acts .good (.erase track sector))) ∧
      (s.head.pass = .write → further → arrival = .next (acts .good (.write track sector data))) ∧
      (s.head.pass = .blankCheck → further → blank = true → s.head.later ≠ [] →
        arrival = .next (acted .good)))

/-- R20, R35, R88, R98, R103, R107, R109 to R111: the arrivals at which passes end, the one that begins the pass
included, or a blank-check pass takes its result. The last target of an erase pass leads to the next pass; that of a
write pass makes the slots WRITTEN, which the slot of a rewrite is already, and leads to the verify pass, or, with
verify OFF, completes the run's blocks; that of a control write records the image, a STORE's composed as its write pass
began (log entry 18); a blank target completes a block of a BLANK item, and leads a PLACE item to its write pass; a
target that is not blank ends the item, or, at a spare just allocated, goes back to allocation. CREDITs follow a DONE
(log entry 15). -/
def Obligations.PassesEndAndTheRunGoesOn : Prop :=
  ∀ (s : State) (r : Run) (before after : List Target) (t : Target) (blank : Bool), s.held = false →
    s.head.run = some r → ArrivalCounts s → NextToAct r before t after →
    let arrival := exec (.sectorIdArrival r.track t.sector blank) s
    let s' := inItsPass r s
    let last := after = [] ∧ ∀ x ∈ before, x.stage = .good
    let zoned := r.work = .blocks ∨ r.work = .rewrite
    let data := if r.work = .blocks ∨ r.work = .rewrite then
        (s.queue.head?.map fun it => slotData it.id t.block s.slots).getD zeroBlock
      else s'.head.image.getD t.sector zeroBlock
    let erased := s'.setPort (s.port ++ [.erase r.track t.sector])
    let wrote := s'.setPort (s.port ++ [.write r.track t.sector data])
    (∀ p ps, s.head.pass = .erase → last → s.head.later = p :: ps →
      arrival = .next (nextPassAwaited r p ps erased)) ∧
    (∀ p ps, s.head.pass = .write → last → ¬ zoned → s.head.later = p :: ps →
      arrival = .next (nextPassAwaited r p ps wrote)) ∧
    (∀ it rest p ps, s.head.pass = .write → last → zoned → s.head.later = p :: ps →
      s.queue = it :: rest →
      let mine := fun x : Slot => x.holder = some it.id ∧ ∃ y ∈ r.targets, y.block = x.block
      ((∀ x ∈ s.slots, mine x → x.state = .full) ∨ ∀ x ∈ s.slots, mine x → x.state = .written) →
      ∃ slots, slots.length = s.slots.length ∧
        (∀ (j : Nat) (x : Slot), s.slots[j]? = some x →
          (mine x → slots[j]? = some { x with state := .written }) ∧
          (¬ mine x → slots[j]? = some x)) ∧
        arrival = .next (nextPassAwaited r p ps (wrote.setSlots slots))) ∧
    (∀ it rest e f, s.head.pass = .write → last → zoned → s.head.later = [] → s.head.task = .item →
      s.queue = it :: rest → it.kind = .place → it.extent = some e → s.drive.facts = some f →
      ∃ u, arrival = .next u ∧
        PlaceGoesOn { it with blocksDone := it.blocksDone + r.targets.length } f
          (completed it rest e (r.targets.map Target.block) wrote) u) ∧
    (∀ p ps, s.head.pass = .blankCheck → last → blank = true → s.head.later = p :: ps →
      arrival = .next (nextPassAwaited r p ps s')) ∧
    (∀ it rest e, s.head.pass = .blankCheck → last → blank = true → s.head.later = [] →
      s.head.task = .item → s.queue = it :: rest → it.kind = .blank → it.extent = some e →
      s.drive.facts.isSome = true →
      ∃ u, arrival = .next u ∧
        BlankGoesOn { it with blocksDone := it.blocksDone + 1 } (completed it rest e [t.block] s') u) ∧
    (∀ it rest e next more, s.head.pass = .blankCheck → blank = true → s.head.later = [] →
      after = next :: more → next.stage = .toAct → s.queue = it :: rest → it.extent = some e →
      arrival = .next (completed it rest e [t.block] (s'.setHead
        (withTargets r (before ++ { t with stage := .good, seen := true } :: after) s')))) ∧
    (∀ it, s.head.pass = .blankCheck → blank = false → r.work = .blocks → Serves it s →
      (it.kind = .blank → ∃ u, arrival = .next u ∧ ItemEnds .eraseFailed .none it s u) ∧
      (it.kind = .place → ∃ u, arrival = .next u ∧ ItemEnds .alreadyWritten .none it s u)) ∧
    (∀ it rest e o f k ks, s.head.pass = .blankCheck → blank = false → r.work = .rewrite →
      s.head.task = .item → s.queue = it :: rest → it.kind = .place → it.extent = some e →
      it.first = some o → s.drive.facts = some f → s.head.failing = k :: ks →
      ∃ u, arrival = .next u ∧ Relocated it rest f k ((s.entry e).psa (o + k)) s u)

/-- R13, R20, R89, R96, R103, R104, R108, R112, R129: the results of a read and of a verify pass, with the round not yet
over. A result that no target awaits is passed over, and so is one that arrives outside IN_PASS (R96) or, as sector IDs
are too, once the limit of R104 has been reached (the model's reading, log entry 14). A target whose result has not
come when its sector ID comes again is taken as uncorrectable, or as a fail, and is not acted on at that arrival (the
model's reading, log entry 17). -/
def Obligations.ResultsGoToTheTargetThatAwaitsThem : Prop :=
  ∀ (s : State) (r : Run) (t other : Target) (before after : List Target), s.held = false →
    (∀ track sector res isMatch,
      (∀ r', s.head.run = some r' → r'.track = track →
        ∀ x ∈ r'.targets, x.sector = sector → x.stage ≠ .awaiting) →
      exec (.readDataEvent track sector res) s = .next s ∧
      exec (.verifyCompareResult track sector isMatch) s = .next s) ∧
    (∀ track sector res isMatch blank, s.head.activity ≠ .inPass ∨ s.passOverdue = true →
      exec (.readDataEvent track sector res) s = .next s ∧
      exec (.verifyCompareResult track sector isMatch) s = .next s ∧
      (s.passOverdue = true → exec (.sectorIdArrival track sector blank) s = .next s)) ∧
    (s.head.run = some r → s.head.activity = .inPass → s.passOverdue = false →
      r.targets = before ++ t :: after → t.stage = .awaiting →
      (∀ x ∈ before ++ after, x.sector ≠ t.sector) →
      other ∈ before ++ after → (other.stage = .toAct ∨ other.stage = .awaiting) →
      let withTarget (t' : Target) : Head := withTargets r (before ++ t' :: after) s
      (s.head.pass = .verify → ∀ isMatch,
        exec (.verifyCompareResult r.track t.sector isMatch) s = .next (s.setHead
          (withTarget { t with stage := if isMatch then .good else .bad, seen := true }))) ∧
      (s.head.pass = .read →
        exec (.readDataEvent r.track t.sector .uncorrectable) s = .next (s.setHead
          (withTarget { t with stage := .bad, attempts := t.attempts + 1 }))) ∧
      (∀ blank, exec (.sectorIdArrival r.track t.sector blank) s = .next (s.setHead
          (withTarget { t with stage := .bad, attempts := t.attempts + 1 }))) ∧
      (s.head.pass = .read → r.work = .control → ∀ d corrected,
        exec (.readDataEvent r.track t.sector (.delivered d corrected)) s = .next (s.setHead
          { withTarget { t with stage := .good, seen := true } with
            readIn := s.head.readIn ++ [(t.sector, d)] })) ∧
      (∀ it rest e d corrected, s.head.pass = .read → r.work = .blocks → s.queue = it :: rest →
        it.extent = some e → it.blocksDone ≤ it.count →
        ∃ done, LeadingDelivered it (received it rest e t.block d corrected done s).slots done ∧
          let u := received it rest e t.block d corrected done s
          exec (.readDataEvent r.track t.sector (.delivered d corrected)) s = .next
            (u.setHead (withTarget { t with stage := .good, seen := true }))))

/-- R87, R98, R100, R103, R112, R113: the result with which a round of a read pass is over, the arrival of the sector
ID of the last target awaited included, by which it is taken as uncorrectable (log entry 17). A new round takes the targets
that were uncorrectable fewer than three times; otherwise the item ends READ_FAILED when one was so three times, and
when all are delivered the item ends OK or its next run is formed. CREDITs follow a DONE (log entry 15). -/
def Obligations.ReadRoundsEnd : Prop :=
  ∀ (s : State) (r : Run) (t : Target) (before after : List Target), s.held = false →
    InPass s .read r → LastAwaited r before t after →
    let event (res : ReadResult) := exec (.readDataEvent r.track t.sector res) s
    let failed := before ++ { t with stage := .bad, attempts := t.attempts + 1 } :: after
    let fine := before ++ { t with stage := .good, seen := true } :: after
    (∀ i, ResultFails (.readDataEvent r.track t.sector .uncorrectable) r t i →
      ((∃ x ∈ failed, Retried x) → exec i s = .next (s.setHead (roundAgain r failed s))) ∧
      (∀ it, r.work = .blocks → Serves it s → (∀ x ∈ failed, ¬ Retried x) →
        ∃ u, exec i s = .next u ∧ HeadEnds .readFailed .none it s u)) ∧
    (∀ it rest e d n, r.work = .blocks → s.head.task = .item → s.queue = it :: rest →
      it.kind = .fetch → it.extent = some e → it.blocksDone ≤ it.count →
      ∃ done, LeadingDelivered it (received it rest e t.block d n done s).slots done ∧
        let v := received it rest e t.block d n done s
        let it' := { it with corrected := min 65535 (it.corrected + n), blocksDone := done }
        ((∃ x ∈ fine, Retried x) → event (.delivered d n) = .next (v.setHead (roundAgain r fine s))) ∧
        ((∀ x ∈ fine, ¬ Retried x) → (∃ x ∈ fine, x.stage = .bad) →
          ∃ u, event (.delivered d n) = .next u ∧ HeadEnds .readFailed .none it' v u) ∧
        ((∀ x ∈ fine, x.stage = .good) → s.drive.facts.isSome = true →
          ∃ u, event (.delivered d n) = .next u ∧ FetchGoesOn it' v u))

/-- R20, R61 to R66, R98, R103, R108 to R110, R113: the result with which a verify pass ends, the arrival of the sector
ID of the last target awaited included, by which it is taken as a fail (log entry 17). In a run formed from the
item's blocks the blocks before the first failing one become complete, and the item goes on or its first failing
block is taken up; in a rewrite a match completes the block, with the matched blocks behind it up to the next
failing one, and a fail goes back to allocation with the relocation count reached. CREDITs follow a DONE (log entry 15). -/
def Obligations.AVerifyResultCompletesOrReplacesTheBlock : Prop :=
  ∀ (s : State) (r : Run) (before after : List Target) (t : Target) (isMatch : Bool) (i : Instr)
    (it : WorkItem) (rest : List WorkItem) (e o : Nat) (f : Facts), s.held = false → s.head.task = .item →
    InPass s .verify r → LastAwaited r before t after → s.queue = it :: rest → it.kind = .place →
    it.extent = some e → it.first = some o → s.drive.facts = some f →
    (i = .verifyCompareResult r.track t.sector isMatch ∨
      isMatch = false ∧ ResultFails (.verifyCompareResult r.track t.sector false) r t i) →
    let result := exec i s
    let ts := before ++ { t with stage := if isMatch then .good else .bad, seen := true } :: after
    let psa := fun k => (s.entry e).psa (o + k)
    let goesOn (ks : List Nat) := { it with blocksDone := it.blocksDone + ks.length }
    (r.work = .blocks → (∀ x ∈ ts, x.stage = .good) →
      ∃ u, result = .next u ∧
        PlaceGoesOn (goesOn (ts.map Target.block)) f (completed it rest e (ts.map Target.block) s) u) ∧
    (∀ lead x others, r.work = .blocks → ts = lead ++ x :: others → (∀ y ∈ lead, y.stage = .good) →
      x.stage = .bad →
      let s' := (completed it rest e (lead.map Target.block) s).setHead { s.head with
        failing := x.block :: (others.filter fun y => decide (y.stage = .bad)).map Target.block
        matched := (others.filter fun y => decide (y.stage = .good)).map Target.block
        relocations := 0 }
      ∃ u, result = .next u ∧
        Relocated (goesOn (lead.map Target.block)) rest f x.block (psa x.block) s' u) ∧
    (∀ k ks, r.work = .rewrite → s.head.failing = k :: ks → (∃ x ∈ ts, x.stage = .bad) →
      ∃ u, result = .next u ∧ Relocated it rest f k (psa k) s u) ∧
    (∀ k, r.work = .rewrite → s.head.failing = [k] → (∀ x ∈ ts, x.stage = .good) →
      let s' := (completed it rest e (k :: s.head.matched) s).setHead
        { s.head with failing := [], matched := [], relocations := 0 }
      ∃ u, result = .next u ∧ PlaceGoesOn (goesOn (k :: s.head.matched)) f s' u) ∧
    (∀ k g ks, r.work = .rewrite → s.head.failing = k :: g :: ks → (∀ x ∈ ts, x.stage = .good) →
      let ms := s.head.matched.takeWhile fun m => decide (m < g)
      let s' := (completed it rest e (k :: ms) s).setHead { s.head with
        failing := g :: ks, matched := s.head.matched.drop ms.length, relocations := 0 }
      ∃ u, result = .next u ∧ Relocated (goesOn (k :: ms)) rest f g (psa g) s' u)

/-- R99, R114, R124 to R127: data frames and the data timeout. A frame that fills the slot the head waits for lets
it form its run; a frame out of order, or without credit, ends its item, WAITING or in service, and the data
timeout ends the front item; the head's work on an item in service is cut, but for a list write-back inside it.
CREDITs follow a DONE (log entry 15). -/
def Obligations.DataFramesFillSlotsInOrder : Prop :=
  ∀ (s : State) (route : Route) (index : Word16) (d : Block), s.held = false → d.length = 1024 →
    let frame := exec (.dataFrame route index d) s
    ((∀ it ∈ s.queue, it.route = route → s.awaitingData it = false) →
      frame = .next (reports (taken s) [.notice (.stray route index.toNat)])) ∧
    (∀ before it after, s.queue = before ++ it :: after →
      (∀ x ∈ before, x.route = route → s.awaitingData x = false) → it.route = route →
      it.kind = .place →
      (∀ k, k < it.count → slotState it.id k s.slots = .awaiting →
        (∀ j < k, slotState it.id j s.slots ≠ .awaiting) →
        (it.frameBase + k) % 65536 = index.toNat →
        let filled := (taken s).setSlots (fillSlot it.id k .full d s.slots)
        let awaited := s.head.task = .item ∧ s.head.activity = .waitingData ∧
          it.state = .inService ∧ k = it.blocksDone
        (¬ awaited → frame = .next filled) ∧
        (∀ f, awaited → before = [] → s.drive.facts = some f → (s.itemPlace it k).isSome = true →
          ∃ r, RunFormed filled it (fun j => slotState it.id j filled.slots = .full) r ∧
            frame = .next (runBegun r (placePasses f.kind it.snapshot).1
              (placePasses f.kind it.snapshot).2 (filled.setDataTimer none)))) ∧
      (∀ k, k < it.count → slotState it.id k s.slots = .awaiting →
        (∀ j < k, slotState it.id j s.slots ≠ .awaiting) →
        (it.frameBase + k) % 65536 ≠ index.toNat →
        ∃ t, frame = .next t ∧ EndsFromOutside .dataOrder it (taken s) t) ∧
      (it.given < it.count → (∀ k < it.count, slotState it.id k s.slots ≠ .awaiting) →
        ∃ t, frame = .next t ∧ EndsFromOutside .dataOrder it (taken s) t)) ∧
    (s.dataTimer = none ∨ s.queue = [] → exec .dataTimeout s = .next s) ∧
    (∀ it rest n, s.dataTimer = some n → s.queue = it :: rest →
      ∃ t, exec .dataTimeout s = .next t ∧ EndsFromOutside .dataTimeout it s t)

/-- R87, R121, R129, R168: sending read data. The lowest unsent block goes SENDING when its slot is READY, no other
block is being taken and no data frame waits behind the frame being sent, which a data frame at the front of the
sequence is (the model's reading, log entry 26); else nothing changes. A block that has been taken whole produces
its data frame and frees its slot, and the last counted one of an ended FETCH is followed by the DONE; the walk gives
the slots that this frees. CREDITs come last (log entry 15). -/
def Obligations.ReadBlocksLeaveInBlockOrder : Prop :=
  ∀ (s : State) (it : WorkItem) (rest : List WorkItem) (tag : Byte), s.held = false →
    s.queue = it :: rest → it.kind = .fetch → it.route = .tag tag →
    let waits := ∃ f ∈ s.outbound.tail, ∃ g i b, f = Frame.data g i b
    let taking := ∃ x ∈ s.slots, x.state = .sending
    (slotState it.id it.sent s.slots = .ready → ¬ waits → ¬ taking →
      exec .sendBlock s = .next (s.setSlots (moveSlot it.id it.sent .sending s.slots))) ∧
    ((slotState it.id it.sent s.slots ≠ .ready ∨ waits ∨ taking) →
      exec .sendBlock s = .next s) ∧
    (slotState it.id it.sent s.slots ≠ .sending → exec .dataFrameProduced s = .next s) ∧
    (slotState it.id it.sent s.slots = .sending →
      let gone := { it with sent := it.sent + 1 }
      let produced := reports ((s.setQueue (gone :: rest)).setSlots (s.slots.map fun x =>
          if x.serves it.id it.sent then x.release else x))
        [.data tag it.sent (slotData it.id it.sent s.slots)]
      ((it.ended = none ∨ it.sent + 1 ≠ it.blocksDone) →
        ∃ t, exec .dataFrameProduced s = .next t ∧ Settled produced t) ∧
      (∀ o c, it.ended = some (o, c) → it.sent + 1 = it.blocksDone →
        ∃ t, exec .dataFrameProduced s = .next t ∧ Settled (ended o c gone produced) t))

end
end

