-- ==== Sys2Proof/Laws/State.lean ====
section
/-! SUPPORT. One lemma per field per update of `State`, true by `rfl`: no later proof unfolds a record
update. -/

namespace Sys2Proof.Machine

variable (s : State)

@[simp] theorem State.setDrive_drive (v : Drive) : (s.setDrive v).drive = v := rfl
@[simp] theorem State.setDrive_profile (v : Drive) : (s.setDrive v).profile = s.profile := rfl
@[simp] theorem State.setDrive_extents (v : Drive) : (s.setDrive v).extents = s.extents := rfl
@[simp] theorem State.setDrive_fault (v : Drive) : (s.setDrive v).fault = s.fault := rfl
@[simp] theorem State.setDrive_list (v : Drive) : (s.setDrive v).list = s.list := rfl
@[simp] theorem State.setDrive_queue (v : Drive) : (s.setDrive v).queue = s.queue := rfl
@[simp] theorem State.setDrive_nextId (v : Drive) : (s.setDrive v).nextId = s.nextId := rfl
@[simp] theorem State.setDrive_head (v : Drive) : (s.setDrive v).head = s.head := rfl
@[simp] theorem State.setDrive_slots (v : Drive) : (s.setDrive v).slots = s.slots := rfl
@[simp] theorem State.setDrive_dataTimer (v : Drive) : (s.setDrive v).dataTimer = s.dataTimer := rfl
@[simp] theorem State.setDrive_descriptors (v : Drive) : (s.setDrive v).descriptors = s.descriptors := rfl
@[simp] theorem State.setDrive_lanes (v : Drive) : (s.setDrive v).lanes = s.lanes := rfl
@[simp] theorem State.setDrive_receiver (v : Drive) : (s.setDrive v).receiver = s.receiver := rfl
@[simp] theorem State.setDrive_outbound (v : Drive) : (s.setDrive v).outbound = s.outbound := rfl
@[simp] theorem State.setDrive_line (v : Drive) : (s.setDrive v).line = s.line := rfl
@[simp] theorem State.setDrive_port (v : Drive) : (s.setDrive v).port = s.port := rfl
@[simp] theorem State.setDrive_held (v : Drive) : (s.setDrive v).held = s.held := rfl
@[simp] theorem State.setDrive_pending (v : Drive) : (s.setDrive v).pending = s.pending := rfl
@[simp] theorem State.setProfile_drive (v : Profile) : (s.setProfile v).drive = s.drive := rfl
@[simp] theorem State.setProfile_profile (v : Profile) : (s.setProfile v).profile = v := rfl
@[simp] theorem State.setProfile_extents (v : Profile) : (s.setProfile v).extents = s.extents := rfl
@[simp] theorem State.setProfile_fault (v : Profile) : (s.setProfile v).fault = s.fault := rfl
@[simp] theorem State.setProfile_list (v : Profile) : (s.setProfile v).list = s.list := rfl
@[simp] theorem State.setProfile_queue (v : Profile) : (s.setProfile v).queue = s.queue := rfl
@[simp] theorem State.setProfile_nextId (v : Profile) : (s.setProfile v).nextId = s.nextId := rfl
@[simp] theorem State.setProfile_head (v : Profile) : (s.setProfile v).head = s.head := rfl
@[simp] theorem State.setProfile_slots (v : Profile) : (s.setProfile v).slots = s.slots := rfl
@[simp] theorem State.setProfile_dataTimer (v : Profile) : (s.setProfile v).dataTimer = s.dataTimer := rfl
@[simp] theorem State.setProfile_descriptors (v : Profile) : (s.setProfile v).descriptors = s.descriptors := rfl
@[simp] theorem State.setProfile_lanes (v : Profile) : (s.setProfile v).lanes = s.lanes := rfl
@[simp] theorem State.setProfile_receiver (v : Profile) : (s.setProfile v).receiver = s.receiver := rfl
@[simp] theorem State.setProfile_outbound (v : Profile) : (s.setProfile v).outbound = s.outbound := rfl
@[simp] theorem State.setProfile_line (v : Profile) : (s.setProfile v).line = s.line := rfl
@[simp] theorem State.setProfile_port (v : Profile) : (s.setProfile v).port = s.port := rfl
@[simp] theorem State.setProfile_held (v : Profile) : (s.setProfile v).held = s.held := rfl
@[simp] theorem State.setProfile_pending (v : Profile) : (s.setProfile v).pending = s.pending := rfl
@[simp] theorem State.setExtents_drive (v : List Extent) : (s.setExtents v).drive = s.drive := rfl
@[simp] theorem State.setExtents_profile (v : List Extent) : (s.setExtents v).profile = s.profile := rfl
@[simp] theorem State.setExtents_extents (v : List Extent) : (s.setExtents v).extents = v := rfl
@[simp] theorem State.setExtents_fault (v : List Extent) : (s.setExtents v).fault = s.fault := rfl
@[simp] theorem State.setExtents_list (v : List Extent) : (s.setExtents v).list = s.list := rfl
@[simp] theorem State.setExtents_queue (v : List Extent) : (s.setExtents v).queue = s.queue := rfl
@[simp] theorem State.setExtents_nextId (v : List Extent) : (s.setExtents v).nextId = s.nextId := rfl
@[simp] theorem State.setExtents_head (v : List Extent) : (s.setExtents v).head = s.head := rfl
@[simp] theorem State.setExtents_slots (v : List Extent) : (s.setExtents v).slots = s.slots := rfl
@[simp] theorem State.setExtents_dataTimer (v : List Extent) : (s.setExtents v).dataTimer = s.dataTimer := rfl
@[simp] theorem State.setExtents_descriptors (v : List Extent) : (s.setExtents v).descriptors = s.descriptors := rfl
@[simp] theorem State.setExtents_lanes (v : List Extent) : (s.setExtents v).lanes = s.lanes := rfl
@[simp] theorem State.setExtents_receiver (v : List Extent) : (s.setExtents v).receiver = s.receiver := rfl
@[simp] theorem State.setExtents_outbound (v : List Extent) : (s.setExtents v).outbound = s.outbound := rfl
@[simp] theorem State.setExtents_line (v : List Extent) : (s.setExtents v).line = s.line := rfl
@[simp] theorem State.setExtents_port (v : List Extent) : (s.setExtents v).port = s.port := rfl
@[simp] theorem State.setExtents_held (v : List Extent) : (s.setExtents v).held = s.held := rfl
@[simp] theorem State.setExtents_pending (v : List Extent) : (s.setExtents v).pending = s.pending := rfl
@[simp] theorem State.setFault_drive (v : FaultRecord) : (s.setFault v).drive = s.drive := rfl
@[simp] theorem State.setFault_profile (v : FaultRecord) : (s.setFault v).profile = s.profile := rfl
@[simp] theorem State.setFault_extents (v : FaultRecord) : (s.setFault v).extents = s.extents := rfl
@[simp] theorem State.setFault_fault (v : FaultRecord) : (s.setFault v).fault = v := rfl
@[simp] theorem State.setFault_list (v : FaultRecord) : (s.setFault v).list = s.list := rfl
@[simp] theorem State.setFault_queue (v : FaultRecord) : (s.setFault v).queue = s.queue := rfl
@[simp] theorem State.setFault_nextId (v : FaultRecord) : (s.setFault v).nextId = s.nextId := rfl
@[simp] theorem State.setFault_head (v : FaultRecord) : (s.setFault v).head = s.head := rfl
@[simp] theorem State.setFault_slots (v : FaultRecord) : (s.setFault v).slots = s.slots := rfl
@[simp] theorem State.setFault_dataTimer (v : FaultRecord) : (s.setFault v).dataTimer = s.dataTimer := rfl
@[simp] theorem State.setFault_descriptors (v : FaultRecord) : (s.setFault v).descriptors = s.descriptors := rfl
@[simp] theorem State.setFault_lanes (v : FaultRecord) : (s.setFault v).lanes = s.lanes := rfl
@[simp] theorem State.setFault_receiver (v : FaultRecord) : (s.setFault v).receiver = s.receiver := rfl
@[simp] theorem State.setFault_outbound (v : FaultRecord) : (s.setFault v).outbound = s.outbound := rfl
@[simp] theorem State.setFault_line (v : FaultRecord) : (s.setFault v).line = s.line := rfl
@[simp] theorem State.setFault_port (v : FaultRecord) : (s.setFault v).port = s.port := rfl
@[simp] theorem State.setFault_held (v : FaultRecord) : (s.setFault v).held = s.held := rfl
@[simp] theorem State.setFault_pending (v : FaultRecord) : (s.setFault v).pending = s.pending := rfl
@[simp] theorem State.setList_drive (v : ReplacementList) : (s.setList v).drive = s.drive := rfl
@[simp] theorem State.setList_profile (v : ReplacementList) : (s.setList v).profile = s.profile := rfl
@[simp] theorem State.setList_extents (v : ReplacementList) : (s.setList v).extents = s.extents := rfl
@[simp] theorem State.setList_fault (v : ReplacementList) : (s.setList v).fault = s.fault := rfl
@[simp] theorem State.setList_list (v : ReplacementList) : (s.setList v).list = v := rfl
@[simp] theorem State.setList_queue (v : ReplacementList) : (s.setList v).queue = s.queue := rfl
@[simp] theorem State.setList_nextId (v : ReplacementList) : (s.setList v).nextId = s.nextId := rfl
@[simp] theorem State.setList_head (v : ReplacementList) : (s.setList v).head = s.head := rfl
@[simp] theorem State.setList_slots (v : ReplacementList) : (s.setList v).slots = s.slots := rfl
@[simp] theorem State.setList_dataTimer (v : ReplacementList) : (s.setList v).dataTimer = s.dataTimer := rfl
@[simp] theorem State.setList_descriptors (v : ReplacementList) : (s.setList v).descriptors = s.descriptors := rfl
@[simp] theorem State.setList_lanes (v : ReplacementList) : (s.setList v).lanes = s.lanes := rfl
@[simp] theorem State.setList_receiver (v : ReplacementList) : (s.setList v).receiver = s.receiver := rfl
@[simp] theorem State.setList_outbound (v : ReplacementList) : (s.setList v).outbound = s.outbound := rfl
@[simp] theorem State.setList_line (v : ReplacementList) : (s.setList v).line = s.line := rfl
@[simp] theorem State.setList_port (v : ReplacementList) : (s.setList v).port = s.port := rfl
@[simp] theorem State.setList_held (v : ReplacementList) : (s.setList v).held = s.held := rfl
@[simp] theorem State.setList_pending (v : ReplacementList) : (s.setList v).pending = s.pending := rfl
@[simp] theorem State.setQueue_drive (v : List WorkItem) : (s.setQueue v).drive = s.drive := rfl
@[simp] theorem State.setQueue_profile (v : List WorkItem) : (s.setQueue v).profile = s.profile := rfl
@[simp] theorem State.setQueue_extents (v : List WorkItem) : (s.setQueue v).extents = s.extents := rfl
@[simp] theorem State.setQueue_fault (v : List WorkItem) : (s.setQueue v).fault = s.fault := rfl
@[simp] theorem State.setQueue_list (v : List WorkItem) : (s.setQueue v).list = s.list := rfl
@[simp] theorem State.setQueue_queue (v : List WorkItem) : (s.setQueue v).queue = v := rfl
@[simp] theorem State.setQueue_nextId (v : List WorkItem) : (s.setQueue v).nextId = s.nextId := rfl
@[simp] theorem State.setQueue_head (v : List WorkItem) : (s.setQueue v).head = s.head := rfl
@[simp] theorem State.setQueue_slots (v : List WorkItem) : (s.setQueue v).slots = s.slots := rfl
@[simp] theorem State.setQueue_dataTimer (v : List WorkItem) : (s.setQueue v).dataTimer = s.dataTimer := rfl
@[simp] theorem State.setQueue_descriptors (v : List WorkItem) : (s.setQueue v).descriptors = s.descriptors := rfl
@[simp] theorem State.setQueue_lanes (v : List WorkItem) : (s.setQueue v).lanes = s.lanes := rfl
@[simp] theorem State.setQueue_receiver (v : List WorkItem) : (s.setQueue v).receiver = s.receiver := rfl
@[simp] theorem State.setQueue_outbound (v : List WorkItem) : (s.setQueue v).outbound = s.outbound := rfl
@[simp] theorem State.setQueue_line (v : List WorkItem) : (s.setQueue v).line = s.line := rfl
@[simp] theorem State.setQueue_port (v : List WorkItem) : (s.setQueue v).port = s.port := rfl
@[simp] theorem State.setQueue_held (v : List WorkItem) : (s.setQueue v).held = s.held := rfl
@[simp] theorem State.setQueue_pending (v : List WorkItem) : (s.setQueue v).pending = s.pending := rfl
@[simp] theorem State.setNextId_drive (v : Nat) : (s.setNextId v).drive = s.drive := rfl
@[simp] theorem State.setNextId_profile (v : Nat) : (s.setNextId v).profile = s.profile := rfl
@[simp] theorem State.setNextId_extents (v : Nat) : (s.setNextId v).extents = s.extents := rfl
@[simp] theorem State.setNextId_fault (v : Nat) : (s.setNextId v).fault = s.fault := rfl
@[simp] theorem State.setNextId_list (v : Nat) : (s.setNextId v).list = s.list := rfl
@[simp] theorem State.setNextId_queue (v : Nat) : (s.setNextId v).queue = s.queue := rfl
@[simp] theorem State.setNextId_nextId (v : Nat) : (s.setNextId v).nextId = v := rfl
@[simp] theorem State.setNextId_head (v : Nat) : (s.setNextId v).head = s.head := rfl
@[simp] theorem State.setNextId_slots (v : Nat) : (s.setNextId v).slots = s.slots := rfl
@[simp] theorem State.setNextId_dataTimer (v : Nat) : (s.setNextId v).dataTimer = s.dataTimer := rfl
@[simp] theorem State.setNextId_descriptors (v : Nat) : (s.setNextId v).descriptors = s.descriptors := rfl
@[simp] theorem State.setNextId_lanes (v : Nat) : (s.setNextId v).lanes = s.lanes := rfl
@[simp] theorem State.setNextId_receiver (v : Nat) : (s.setNextId v).receiver = s.receiver := rfl
@[simp] theorem State.setNextId_outbound (v : Nat) : (s.setNextId v).outbound = s.outbound := rfl
@[simp] theorem State.setNextId_line (v : Nat) : (s.setNextId v).line = s.line := rfl
@[simp] theorem State.setNextId_port (v : Nat) : (s.setNextId v).port = s.port := rfl
@[simp] theorem State.setNextId_held (v : Nat) : (s.setNextId v).held = s.held := rfl
@[simp] theorem State.setNextId_pending (v : Nat) : (s.setNextId v).pending = s.pending := rfl
@[simp] theorem State.setHead_drive (v : Head) : (s.setHead v).drive = s.drive := rfl
@[simp] theorem State.setHead_profile (v : Head) : (s.setHead v).profile = s.profile := rfl
@[simp] theorem State.setHead_extents (v : Head) : (s.setHead v).extents = s.extents := rfl
@[simp] theorem State.setHead_fault (v : Head) : (s.setHead v).fault = s.fault := rfl
@[simp] theorem State.setHead_list (v : Head) : (s.setHead v).list = s.list := rfl
@[simp] theorem State.setHead_queue (v : Head) : (s.setHead v).queue = s.queue := rfl
@[simp] theorem State.setHead_nextId (v : Head) : (s.setHead v).nextId = s.nextId := rfl
@[simp] theorem State.setHead_head (v : Head) : (s.setHead v).head = v := rfl
@[simp] theorem State.setHead_slots (v : Head) : (s.setHead v).slots = s.slots := rfl
@[simp] theorem State.setHead_dataTimer (v : Head) : (s.setHead v).dataTimer = s.dataTimer := rfl
@[simp] theorem State.setHead_descriptors (v : Head) : (s.setHead v).descriptors = s.descriptors := rfl
@[simp] theorem State.setHead_lanes (v : Head) : (s.setHead v).lanes = s.lanes := rfl
@[simp] theorem State.setHead_receiver (v : Head) : (s.setHead v).receiver = s.receiver := rfl
@[simp] theorem State.setHead_outbound (v : Head) : (s.setHead v).outbound = s.outbound := rfl
@[simp] theorem State.setHead_line (v : Head) : (s.setHead v).line = s.line := rfl
@[simp] theorem State.setHead_port (v : Head) : (s.setHead v).port = s.port := rfl
@[simp] theorem State.setHead_held (v : Head) : (s.setHead v).held = s.held := rfl
@[simp] theorem State.setHead_pending (v : Head) : (s.setHead v).pending = s.pending := rfl
@[simp] theorem State.setSlots_drive (v : List Slot) : (s.setSlots v).drive = s.drive := rfl
@[simp] theorem State.setSlots_profile (v : List Slot) : (s.setSlots v).profile = s.profile := rfl
@[simp] theorem State.setSlots_extents (v : List Slot) : (s.setSlots v).extents = s.extents := rfl
@[simp] theorem State.setSlots_fault (v : List Slot) : (s.setSlots v).fault = s.fault := rfl
@[simp] theorem State.setSlots_list (v : List Slot) : (s.setSlots v).list = s.list := rfl
@[simp] theorem State.setSlots_queue (v : List Slot) : (s.setSlots v).queue = s.queue := rfl
@[simp] theorem State.setSlots_nextId (v : List Slot) : (s.setSlots v).nextId = s.nextId := rfl
@[simp] theorem State.setSlots_head (v : List Slot) : (s.setSlots v).head = s.head := rfl
@[simp] theorem State.setSlots_slots (v : List Slot) : (s.setSlots v).slots = v := rfl
@[simp] theorem State.setSlots_dataTimer (v : List Slot) : (s.setSlots v).dataTimer = s.dataTimer := rfl
@[simp] theorem State.setSlots_descriptors (v : List Slot) : (s.setSlots v).descriptors = s.descriptors := rfl
@[simp] theorem State.setSlots_lanes (v : List Slot) : (s.setSlots v).lanes = s.lanes := rfl
@[simp] theorem State.setSlots_receiver (v : List Slot) : (s.setSlots v).receiver = s.receiver := rfl
@[simp] theorem State.setSlots_outbound (v : List Slot) : (s.setSlots v).outbound = s.outbound := rfl
@[simp] theorem State.setSlots_line (v : List Slot) : (s.setSlots v).line = s.line := rfl
@[simp] theorem State.setSlots_port (v : List Slot) : (s.setSlots v).port = s.port := rfl
@[simp] theorem State.setSlots_held (v : List Slot) : (s.setSlots v).held = s.held := rfl
@[simp] theorem State.setSlots_pending (v : List Slot) : (s.setSlots v).pending = s.pending := rfl
@[simp] theorem State.setDataTimer_drive (v : Option Nat) : (s.setDataTimer v).drive = s.drive := rfl
@[simp] theorem State.setDataTimer_profile (v : Option Nat) : (s.setDataTimer v).profile = s.profile := rfl
@[simp] theorem State.setDataTimer_extents (v : Option Nat) : (s.setDataTimer v).extents = s.extents := rfl
@[simp] theorem State.setDataTimer_fault (v : Option Nat) : (s.setDataTimer v).fault = s.fault := rfl
@[simp] theorem State.setDataTimer_list (v : Option Nat) : (s.setDataTimer v).list = s.list := rfl
@[simp] theorem State.setDataTimer_queue (v : Option Nat) : (s.setDataTimer v).queue = s.queue := rfl
@[simp] theorem State.setDataTimer_nextId (v : Option Nat) : (s.setDataTimer v).nextId = s.nextId := rfl
@[simp] theorem State.setDataTimer_head (v : Option Nat) : (s.setDataTimer v).head = s.head := rfl
@[simp] theorem State.setDataTimer_slots (v : Option Nat) : (s.setDataTimer v).slots = s.slots := rfl
@[simp] theorem State.setDataTimer_dataTimer (v : Option Nat) : (s.setDataTimer v).dataTimer = v := rfl
@[simp] theorem State.setDataTimer_descriptors (v : Option Nat) : (s.setDataTimer v).descriptors = s.descriptors := rfl
@[simp] theorem State.setDataTimer_lanes (v : Option Nat) : (s.setDataTimer v).lanes = s.lanes := rfl
@[simp] theorem State.setDataTimer_receiver (v : Option Nat) : (s.setDataTimer v).receiver = s.receiver := rfl
@[simp] theorem State.setDataTimer_outbound (v : Option Nat) : (s.setDataTimer v).outbound = s.outbound := rfl
@[simp] theorem State.setDataTimer_line (v : Option Nat) : (s.setDataTimer v).line = s.line := rfl
@[simp] theorem State.setDataTimer_port (v : Option Nat) : (s.setDataTimer v).port = s.port := rfl
@[simp] theorem State.setDataTimer_held (v : Option Nat) : (s.setDataTimer v).held = s.held := rfl
@[simp] theorem State.setDataTimer_pending (v : Option Nat) : (s.setDataTimer v).pending = s.pending := rfl
@[simp] theorem State.setDescriptors_drive (v : List Descriptor) : (s.setDescriptors v).drive = s.drive := rfl
@[simp] theorem State.setDescriptors_profile (v : List Descriptor) : (s.setDescriptors v).profile = s.profile := rfl
@[simp] theorem State.setDescriptors_extents (v : List Descriptor) : (s.setDescriptors v).extents = s.extents := rfl
@[simp] theorem State.setDescriptors_fault (v : List Descriptor) : (s.setDescriptors v).fault = s.fault := rfl
@[simp] theorem State.setDescriptors_list (v : List Descriptor) : (s.setDescriptors v).list = s.list := rfl
@[simp] theorem State.setDescriptors_queue (v : List Descriptor) : (s.setDescriptors v).queue = s.queue := rfl
@[simp] theorem State.setDescriptors_nextId (v : List Descriptor) : (s.setDescriptors v).nextId = s.nextId := rfl
@[simp] theorem State.setDescriptors_head (v : List Descriptor) : (s.setDescriptors v).head = s.head := rfl
@[simp] theorem State.setDescriptors_slots (v : List Descriptor) : (s.setDescriptors v).slots = s.slots := rfl
@[simp] theorem State.setDescriptors_dataTimer (v : List Descriptor) : (s.setDescriptors v).dataTimer = s.dataTimer := rfl
@[simp] theorem State.setDescriptors_descriptors (v : List Descriptor) : (s.setDescriptors v).descriptors = v := rfl
@[simp] theorem State.setDescriptors_lanes (v : List Descriptor) : (s.setDescriptors v).lanes = s.lanes := rfl
@[simp] theorem State.setDescriptors_receiver (v : List Descriptor) : (s.setDescriptors v).receiver = s.receiver := rfl
@[simp] theorem State.setDescriptors_outbound (v : List Descriptor) : (s.setDescriptors v).outbound = s.outbound := rfl
@[simp] theorem State.setDescriptors_line (v : List Descriptor) : (s.setDescriptors v).line = s.line := rfl
@[simp] theorem State.setDescriptors_port (v : List Descriptor) : (s.setDescriptors v).port = s.port := rfl
@[simp] theorem State.setDescriptors_held (v : List Descriptor) : (s.setDescriptors v).held = s.held := rfl
@[simp] theorem State.setDescriptors_pending (v : List Descriptor) : (s.setDescriptors v).pending = s.pending := rfl
@[simp] theorem State.setLanes_drive (v : List Lane) : (s.setLanes v).drive = s.drive := rfl
@[simp] theorem State.setLanes_profile (v : List Lane) : (s.setLanes v).profile = s.profile := rfl
@[simp] theorem State.setLanes_extents (v : List Lane) : (s.setLanes v).extents = s.extents := rfl
@[simp] theorem State.setLanes_fault (v : List Lane) : (s.setLanes v).fault = s.fault := rfl
@[simp] theorem State.setLanes_list (v : List Lane) : (s.setLanes v).list = s.list := rfl
@[simp] theorem State.setLanes_queue (v : List Lane) : (s.setLanes v).queue = s.queue := rfl
@[simp] theorem State.setLanes_nextId (v : List Lane) : (s.setLanes v).nextId = s.nextId := rfl
@[simp] theorem State.setLanes_head (v : List Lane) : (s.setLanes v).head = s.head := rfl
@[simp] theorem State.setLanes_slots (v : List Lane) : (s.setLanes v).slots = s.slots := rfl
@[simp] theorem State.setLanes_dataTimer (v : List Lane) : (s.setLanes v).dataTimer = s.dataTimer := rfl
@[simp] theorem State.setLanes_descriptors (v : List Lane) : (s.setLanes v).descriptors = s.descriptors := rfl
@[simp] theorem State.setLanes_lanes (v : List Lane) : (s.setLanes v).lanes = v := rfl
@[simp] theorem State.setLanes_receiver (v : List Lane) : (s.setLanes v).receiver = s.receiver := rfl
@[simp] theorem State.setLanes_outbound (v : List Lane) : (s.setLanes v).outbound = s.outbound := rfl
@[simp] theorem State.setLanes_line (v : List Lane) : (s.setLanes v).line = s.line := rfl
@[simp] theorem State.setLanes_port (v : List Lane) : (s.setLanes v).port = s.port := rfl
@[simp] theorem State.setLanes_held (v : List Lane) : (s.setLanes v).held = s.held := rfl
@[simp] theorem State.setLanes_pending (v : List Lane) : (s.setLanes v).pending = s.pending := rfl
@[simp] theorem State.setReceiver_drive (v : Receiver) : (s.setReceiver v).drive = s.drive := rfl
@[simp] theorem State.setReceiver_profile (v : Receiver) : (s.setReceiver v).profile = s.profile := rfl
@[simp] theorem State.setReceiver_extents (v : Receiver) : (s.setReceiver v).extents = s.extents := rfl
@[simp] theorem State.setReceiver_fault (v : Receiver) : (s.setReceiver v).fault = s.fault := rfl
@[simp] theorem State.setReceiver_list (v : Receiver) : (s.setReceiver v).list = s.list := rfl
@[simp] theorem State.setReceiver_queue (v : Receiver) : (s.setReceiver v).queue = s.queue := rfl
@[simp] theorem State.setReceiver_nextId (v : Receiver) : (s.setReceiver v).nextId = s.nextId := rfl
@[simp] theorem State.setReceiver_head (v : Receiver) : (s.setReceiver v).head = s.head := rfl
@[simp] theorem State.setReceiver_slots (v : Receiver) : (s.setReceiver v).slots = s.slots := rfl
@[simp] theorem State.setReceiver_dataTimer (v : Receiver) : (s.setReceiver v).dataTimer = s.dataTimer := rfl
@[simp] theorem State.setReceiver_descriptors (v : Receiver) : (s.setReceiver v).descriptors = s.descriptors := rfl
@[simp] theorem State.setReceiver_lanes (v : Receiver) : (s.setReceiver v).lanes = s.lanes := rfl
@[simp] theorem State.setReceiver_receiver (v : Receiver) : (s.setReceiver v).receiver = v := rfl
@[simp] theorem State.setReceiver_outbound (v : Receiver) : (s.setReceiver v).outbound = s.outbound := rfl
@[simp] theorem State.setReceiver_line (v : Receiver) : (s.setReceiver v).line = s.line := rfl
@[simp] theorem State.setReceiver_port (v : Receiver) : (s.setReceiver v).port = s.port := rfl
@[simp] theorem State.setReceiver_held (v : Receiver) : (s.setReceiver v).held = s.held := rfl
@[simp] theorem State.setReceiver_pending (v : Receiver) : (s.setReceiver v).pending = s.pending := rfl
@[simp] theorem State.setOutbound_drive (v : List Frame) : (s.setOutbound v).drive = s.drive := rfl
@[simp] theorem State.setOutbound_profile (v : List Frame) : (s.setOutbound v).profile = s.profile := rfl
@[simp] theorem State.setOutbound_extents (v : List Frame) : (s.setOutbound v).extents = s.extents := rfl
@[simp] theorem State.setOutbound_fault (v : List Frame) : (s.setOutbound v).fault = s.fault := rfl
@[simp] theorem State.setOutbound_list (v : List Frame) : (s.setOutbound v).list = s.list := rfl
@[simp] theorem State.setOutbound_queue (v : List Frame) : (s.setOutbound v).queue = s.queue := rfl
@[simp] theorem State.setOutbound_nextId (v : List Frame) : (s.setOutbound v).nextId = s.nextId := rfl
@[simp] theorem State.setOutbound_head (v : List Frame) : (s.setOutbound v).head = s.head := rfl
@[simp] theorem State.setOutbound_slots (v : List Frame) : (s.setOutbound v).slots = s.slots := rfl
@[simp] theorem State.setOutbound_dataTimer (v : List Frame) : (s.setOutbound v).dataTimer = s.dataTimer := rfl
@[simp] theorem State.setOutbound_descriptors (v : List Frame) : (s.setOutbound v).descriptors = s.descriptors := rfl
@[simp] theorem State.setOutbound_lanes (v : List Frame) : (s.setOutbound v).lanes = s.lanes := rfl
@[simp] theorem State.setOutbound_receiver (v : List Frame) : (s.setOutbound v).receiver = s.receiver := rfl
@[simp] theorem State.setOutbound_outbound (v : List Frame) : (s.setOutbound v).outbound = v := rfl
@[simp] theorem State.setOutbound_line (v : List Frame) : (s.setOutbound v).line = s.line := rfl
@[simp] theorem State.setOutbound_port (v : List Frame) : (s.setOutbound v).port = s.port := rfl
@[simp] theorem State.setOutbound_held (v : List Frame) : (s.setOutbound v).held = s.held := rfl
@[simp] theorem State.setOutbound_pending (v : List Frame) : (s.setOutbound v).pending = s.pending := rfl
@[simp] theorem State.setLine_drive (v : List Byte) : (s.setLine v).drive = s.drive := rfl
@[simp] theorem State.setLine_profile (v : List Byte) : (s.setLine v).profile = s.profile := rfl
@[simp] theorem State.setLine_extents (v : List Byte) : (s.setLine v).extents = s.extents := rfl
@[simp] theorem State.setLine_fault (v : List Byte) : (s.setLine v).fault = s.fault := rfl
@[simp] theorem State.setLine_list (v : List Byte) : (s.setLine v).list = s.list := rfl
@[simp] theorem State.setLine_queue (v : List Byte) : (s.setLine v).queue = s.queue := rfl
@[simp] theorem State.setLine_nextId (v : List Byte) : (s.setLine v).nextId = s.nextId := rfl
@[simp] theorem State.setLine_head (v : List Byte) : (s.setLine v).head = s.head := rfl
@[simp] theorem State.setLine_slots (v : List Byte) : (s.setLine v).slots = s.slots := rfl
@[simp] theorem State.setLine_dataTimer (v : List Byte) : (s.setLine v).dataTimer = s.dataTimer := rfl
@[simp] theorem State.setLine_descriptors (v : List Byte) : (s.setLine v).descriptors = s.descriptors := rfl
@[simp] theorem State.setLine_lanes (v : List Byte) : (s.setLine v).lanes = s.lanes := rfl
@[simp] theorem State.setLine_receiver (v : List Byte) : (s.setLine v).receiver = s.receiver := rfl
@[simp] theorem State.setLine_outbound (v : List Byte) : (s.setLine v).outbound = s.outbound := rfl
@[simp] theorem State.setLine_line (v : List Byte) : (s.setLine v).line = v := rfl
@[simp] theorem State.setLine_port (v : List Byte) : (s.setLine v).port = s.port := rfl
@[simp] theorem State.setLine_held (v : List Byte) : (s.setLine v).held = s.held := rfl
@[simp] theorem State.setLine_pending (v : List Byte) : (s.setLine v).pending = s.pending := rfl
@[simp] theorem State.setPort_drive (v : List PortAction) : (s.setPort v).drive = s.drive := rfl
@[simp] theorem State.setPort_profile (v : List PortAction) : (s.setPort v).profile = s.profile := rfl
@[simp] theorem State.setPort_extents (v : List PortAction) : (s.setPort v).extents = s.extents := rfl
@[simp] theorem State.setPort_fault (v : List PortAction) : (s.setPort v).fault = s.fault := rfl
@[simp] theorem State.setPort_list (v : List PortAction) : (s.setPort v).list = s.list := rfl
@[simp] theorem State.setPort_queue (v : List PortAction) : (s.setPort v).queue = s.queue := rfl
@[simp] theorem State.setPort_nextId (v : List PortAction) : (s.setPort v).nextId = s.nextId := rfl
@[simp] theorem State.setPort_head (v : List PortAction) : (s.setPort v).head = s.head := rfl
@[simp] theorem State.setPort_slots (v : List PortAction) : (s.setPort v).slots = s.slots := rfl
@[simp] theorem State.setPort_dataTimer (v : List PortAction) : (s.setPort v).dataTimer = s.dataTimer := rfl
@[simp] theorem State.setPort_descriptors (v : List PortAction) : (s.setPort v).descriptors = s.descriptors := rfl
@[simp] theorem State.setPort_lanes (v : List PortAction) : (s.setPort v).lanes = s.lanes := rfl
@[simp] theorem State.setPort_receiver (v : List PortAction) : (s.setPort v).receiver = s.receiver := rfl
@[simp] theorem State.setPort_outbound (v : List PortAction) : (s.setPort v).outbound = s.outbound := rfl
@[simp] theorem State.setPort_line (v : List PortAction) : (s.setPort v).line = s.line := rfl
@[simp] theorem State.setPort_port (v : List PortAction) : (s.setPort v).port = v := rfl
@[simp] theorem State.setPort_held (v : List PortAction) : (s.setPort v).held = s.held := rfl
@[simp] theorem State.setPort_pending (v : List PortAction) : (s.setPort v).pending = s.pending := rfl
@[simp] theorem State.setHeld_drive (v : Bool) : (s.setHeld v).drive = s.drive := rfl
@[simp] theorem State.setHeld_profile (v : Bool) : (s.setHeld v).profile = s.profile := rfl
@[simp] theorem State.setHeld_extents (v : Bool) : (s.setHeld v).extents = s.extents := rfl
@[simp] theorem State.setHeld_fault (v : Bool) : (s.setHeld v).fault = s.fault := rfl
@[simp] theorem State.setHeld_list (v : Bool) : (s.setHeld v).list = s.list := rfl
@[simp] theorem State.setHeld_queue (v : Bool) : (s.setHeld v).queue = s.queue := rfl
@[simp] theorem State.setHeld_nextId (v : Bool) : (s.setHeld v).nextId = s.nextId := rfl
@[simp] theorem State.setHeld_head (v : Bool) : (s.setHeld v).head = s.head := rfl
@[simp] theorem State.setHeld_slots (v : Bool) : (s.setHeld v).slots = s.slots := rfl
@[simp] theorem State.setHeld_dataTimer (v : Bool) : (s.setHeld v).dataTimer = s.dataTimer := rfl
@[simp] theorem State.setHeld_descriptors (v : Bool) : (s.setHeld v).descriptors = s.descriptors := rfl
@[simp] theorem State.setHeld_lanes (v : Bool) : (s.setHeld v).lanes = s.lanes := rfl
@[simp] theorem State.setHeld_receiver (v : Bool) : (s.setHeld v).receiver = s.receiver := rfl
@[simp] theorem State.setHeld_outbound (v : Bool) : (s.setHeld v).outbound = s.outbound := rfl
@[simp] theorem State.setHeld_line (v : Bool) : (s.setHeld v).line = s.line := rfl
@[simp] theorem State.setHeld_port (v : Bool) : (s.setHeld v).port = s.port := rfl
@[simp] theorem State.setHeld_held (v : Bool) : (s.setHeld v).held = v := rfl
@[simp] theorem State.setHeld_pending (v : Bool) : (s.setHeld v).pending = s.pending := rfl
@[simp] theorem State.setPending_drive (v : List Instr) : (s.setPending v).drive = s.drive := rfl
@[simp] theorem State.setPending_profile (v : List Instr) : (s.setPending v).profile = s.profile := rfl
@[simp] theorem State.setPending_extents (v : List Instr) : (s.setPending v).extents = s.extents := rfl
@[simp] theorem State.setPending_fault (v : List Instr) : (s.setPending v).fault = s.fault := rfl
@[simp] theorem State.setPending_list (v : List Instr) : (s.setPending v).list = s.list := rfl
@[simp] theorem State.setPending_queue (v : List Instr) : (s.setPending v).queue = s.queue := rfl
@[simp] theorem State.setPending_nextId (v : List Instr) : (s.setPending v).nextId = s.nextId := rfl
@[simp] theorem State.setPending_head (v : List Instr) : (s.setPending v).head = s.head := rfl
@[simp] theorem State.setPending_slots (v : List Instr) : (s.setPending v).slots = s.slots := rfl
@[simp] theorem State.setPending_dataTimer (v : List Instr) : (s.setPending v).dataTimer = s.dataTimer := rfl
@[simp] theorem State.setPending_descriptors (v : List Instr) : (s.setPending v).descriptors = s.descriptors := rfl
@[simp] theorem State.setPending_lanes (v : List Instr) : (s.setPending v).lanes = s.lanes := rfl
@[simp] theorem State.setPending_receiver (v : List Instr) : (s.setPending v).receiver = s.receiver := rfl
@[simp] theorem State.setPending_outbound (v : List Instr) : (s.setPending v).outbound = s.outbound := rfl
@[simp] theorem State.setPending_line (v : List Instr) : (s.setPending v).line = s.line := rfl
@[simp] theorem State.setPending_port (v : List Instr) : (s.setPending v).port = s.port := rfl
@[simp] theorem State.setPending_held (v : List Instr) : (s.setPending v).held = s.held := rfl
@[simp] theorem State.setPending_pending (v : List Instr) : (s.setPending v).pending = v := rfl

end Sys2Proof.Machine
end

