-- ==== Sys2Proof/Laws/Frames.lean ====
section
/-! SUPPORT. Which groups of state each shared operation may change, one lemma an operation, and how such
lemmas compose. -/

namespace Sys2Proof.Safety

open Sys2Proof.Machine

/-- Every group of `f` is one of `g`. -/
@[reducible] def Footprint.le (f g : Footprint) : Prop :=
  (f.drive = true → g.drive = true) ∧ (f.profile = true → g.profile = true) ∧
    (f.extents = true → g.extents = true) ∧ (f.fault = true → g.fault = true) ∧
    (f.list = true → g.list = true) ∧ (f.queue = true → g.queue = true) ∧
    (f.head = true → g.head = true) ∧ (f.slots = true → g.slots = true) ∧
    (f.descriptors = true → g.descriptors = true) ∧ (f.lanes = true → g.lanes = true) ∧
    (f.receiver = true → g.receiver = true) ∧ (f.outbound = true → g.outbound = true) ∧
    (f.line = true → g.line = true) ∧ (f.port = true → g.port = true)

theorem sameOutside_refl (f : Footprint) (s : State) : SameOutside f s s := by
  simp [SameOutside]

theorem SameOutside.trans {f : Footprint} {s t u : State} (h : SameOutside f s t)
    (k : SameOutside f t u) : SameOutside f s u := by
  simp only [SameOutside] at h k ⊢
  refine ⟨?_, ?_, ?_, ?_, ?_, ?_, ?_, ?_, ?_, ?_, ?_, ?_, ?_, ?_, ?_, ?_⟩ <;> intros <;> simp_all

theorem SameOutside.mono {f g : Footprint} {s t : State} (h : SameOutside f s t) (hle : f.le g) :
    SameOutside g s t := by
  have off : ∀ a b : Bool, (a = true → b = true) → b = false → a = false := by decide
  obtain ⟨h1, h2, h3, h4, h5, h6, h7, h8, h9, h10, h11, h12, h13, h14, h15, h16⟩ := h
  obtain ⟨l1, l2, l3, l4, l5, l6, l7, l8, l9, l10, l11, l12, l13, l14⟩ := hle
  exact ⟨fun e => h1 (off _ _ l1 e), fun e => h2 (off _ _ l2 e), fun e => h3 (off _ _ l3 e),
    fun e => h4 (off _ _ l4 e), fun e => h5 (off _ _ l5 e), fun e => h6 (off _ _ l6 e),
    fun e => h7 (off _ _ l7 e), fun e => h8 (off _ _ l8 e), fun e => h9 (off _ _ l9 e),
    fun e => h10 (off _ _ l10 e), fun e => h11 (off _ _ l11 e), fun e => h12 (off _ _ l12 e),
    fun e => h13 (off _ _ l13 e), fun e => h14 (off _ _ l14 e), h15, h16⟩

/-- A fold of steps that each keep the same groups keeps them. -/
theorem sameOutside_foldl {α : Type} {f : Footprint} (g : State → α → State)
    (h : ∀ s a, SameOutside f s (g s a)) (as : List α) (s : State) :
    SameOutside f s (as.foldl g s) := by
  induction as generalizing s with
  | nil => exact sameOutside_refl f s
  | cons a as ih => exact (h s a).trans (ih (g s a))

end Sys2Proof.Safety

namespace Sys2Proof.Machine

open Sys2Proof.Safety

/-! ### Outputs and single replacements -/

theorem State.produceAll_same (fs : List Frame) (s : State) :
    SameOutside { outbound := true } s (s.produceAll fs) := by simp [SameOutside, State.produceAll]

theorem State.produce_same (f : Frame) (s : State) :
    SameOutside { outbound := true } s (s.produce f) := by simp [SameOutside, State.produce]

theorem State.notify_same (n : Notice) (s : State) :
    SameOutside { outbound := true } s (s.notify n) := State.produce_same _ s

theorem State.answer_same (kind tag : Byte) (code : Code) (body : Body) (s : State) :
    SameOutside { outbound := true } s (s.answer kind tag code body) := State.produce_same _ s

theorem State.refuse_same (kind tag : Byte) (code : Code) (s : State) :
    SameOutside { outbound := true } s (s.refuse kind tag code) := State.produce_same _ s

theorem State.act_same (a : PortAction) (s : State) : SameOutside { port := true } s (s.act a) := by
  simp [SameOutside, State.act]

theorem State.mapHead_same (f : Head → Head) (s : State) :
    SameOutside { head := true } s (s.mapHead f) := by simp [SameOutside, State.mapHead]

theorem State.mapDrive_same (f : Drive → Drive) (s : State) :
    SameOutside { drive := true } s (s.mapDrive f) := by simp [SameOutside, State.mapDrive]

theorem State.mapList_same (f : ReplacementList → ReplacementList) (s : State) :
    SameOutside { list := true } s (s.mapList f) := by simp [SameOutside, State.mapList]

theorem State.setLane_same (n : Nat) (l : Lane) (s : State) :
    SameOutside { lanes := true } s (s.setLane n l) := by simp [SameOutside, State.setLane]

theorem State.addItem_same (it : WorkItem) (s : State) :
    SameOutside { queue := true } s (s.addItem it) := by simp [SameOutside, State.addItem]

theorem State.mapFront_same (f : WorkItem → WorkItem) (s : State) :
    SameOutside { queue := true } s (s.mapFront f) := by
  unfold State.mapFront
  split <;> simp [SameOutside]

theorem State.removeItem_same (id : Nat) (s : State) :
    SameOutside { queue := true, slots := true } s (s.removeItem id) := by
  simp [SameOutside, State.removeItem]

theorem State.removeWaiting_same (n : Nat) (s : State) :
    SameOutside { queue := true, slots := true } s (s.removeWaiting n) := by
  simp [SameOutside, State.removeWaiting]

theorem State.clearHead_same (s : State) : SameOutside { head := true } s s.clearHead := by
  simp [SameOutside, State.clearHead, State.mapHead]

/-! ### The walk, halts and the fault record -/

theorem State.walk_same (s : State) :
    SameOutside { queue := true, slots := true, outbound := true } s s.walk := by
  unfold State.walk
  split <;> simp [SameOutside, State.produceAll]

theorem State.haltSilently_same (removing : Bool) (n : Nat) (c : HaltCause) (s : State) :
    SameOutside { queue := true, slots := true, lanes := true } s (s.haltSilently removing n c) := by
  unfold State.haltSilently
  cases removing <;> simp [SameOutside, State.setLane, State.removeWaiting]

theorem State.haltLane_same (removing : Bool) (n : Nat) (c : HaltCause) (s : State) :
    SameOutside { queue := true, slots := true, lanes := true, outbound := true } s
      (s.haltLane removing n c) :=
  ((s.haltSilently_same removing n c).mono (by decide)).trans
    ((State.notify_same _ _).mono (by decide))

theorem State.overrunLanes_same (poster : Option Nat) (c : CauseSet) (s : State) :
    SameOutside { queue := true, slots := true, lanes := true } s (s.overrunLanes poster c) :=
  sameOutside_foldl _ (fun t n => by
    split
    · exact State.haltSilently_same _ _ _ _
    · exact sameOutside_refl _ _) _ _

theorem State.recordViolation_same (poster : Option Nat) (a : Access) (c : CauseSet) (s : State) :
    SameOutside { fault := true, queue := true, slots := true, lanes := true, outbound := true } s
      (s.recordViolation poster a c) := by
  unfold State.recordViolation
  cases s.fault.state
  · simp [SameOutside, State.notify, State.produce]
  · refine SameOutside.trans ?_ ((State.overrunLanes_same poster c _).mono (by decide))
    simp [SameOutside, State.notify, State.produce]
  · exact sameOutside_refl _ _

theorem State.recordEdge_same (a : Access) (s : State) :
    SameOutside { fault := true, outbound := true } s (s.recordEdge a) := by
  unfold State.recordEdge
  cases s.fault.state
  · simp [SameOutside, State.notify, State.produce]
  · dsimp only
    split <;> simp [SameOutside, State.notify, State.produce]
  · exact sameOutside_refl _ _

theorem State.edgeCheck_same (a : Access) (s : State) :
    SameOutside { fault := true, outbound := true } s (s.edgeCheck a) := by
  unfold State.edgeCheck
  split
  · exact s.recordEdge_same a
  · exact sameOutside_refl _ _

/-! ### Lanes -/

theorem State.addPiece_same (n : Nat) (p : Piece) (s : State) :
    SameOutside { queue := true } s (s.addPiece n p) := State.addItem_same _ _

theorem State.placeOnePending_same (s : State) :
    SameOutside { queue := true, lanes := true } s s.placeOnePending := by
  unfold State.placeOnePending
  split
  · cases s.lowestPending laneNumbers with
    | none => exact sameOutside_refl _ _
    | some np =>
      exact ((s.setLane_same _ _).mono (by decide)).trans
        ((State.addPiece_same _ _ _).mono (by decide))
  · exact sameOutside_refl _ _

theorem State.placeAllPending_same (s : State) :
    SameOutside { queue := true, lanes := true } s s.placeAllPending :=
  sameOutside_foldl _ (fun t _ => t.placeOnePending_same) _ _

theorem State.followLink_same (n g : Nat) (s : State) :
    SameOutside { fault := true, queue := true, slots := true, lanes := true, outbound := true } s
      (s.followLink n g) := by
  have failing : SameOutside
      { fault := true, queue := true, slots := true, lanes := true, outbound := true } s
      (s.setLane n { s.lane n with descriptor := g, completed := 0 }) :=
    (s.setLane_same _ _).mono (by decide)
  have halts : ∀ c t, SameOutside
      { fault := true, queue := true, slots := true, lanes := true, outbound := true } t
      (State.haltLane true n c t) := fun c t => (t.haltLane_same true n c).mono (by decide)
  unfold State.followLink
  dsimp only
  split
  · exact failing.trans (halts _ _)
  · split
    · split
      · exact failing.trans (State.recordViolation_same _ _ _ _)
      · exact (failing.trans (State.recordViolation_same _ _ _ _)).trans (halts _ _)
    · split
      · exact failing.trans (halts _ _)
      · exact (s.setLane_same _ _).mono (by decide)

theorem State.completeDescriptor_same (n : Nat) (s : State) :
    SameOutside { fault := true, queue := true, slots := true, lanes := true, outbound := true } s
      (s.completeDescriptor n) := by
  have noticed : SameOutside
      { fault := true, queue := true, slots := true, lanes := true, outbound := true } s
      (if (s.laneDescriptor n).notify = 1#8 then
        s.notify (.laneDone n (s.lane n).descriptor (s.lane n).completed) else s) := by
    split
    · exact (s.notify_same _).mono (by decide)
    · exact sameOutside_refl _ _
  unfold State.completeDescriptor
  dsimp only
  generalize (if (s.laneDescriptor n).notify = 1#8 then
    s.notify (.laneDone n (s.lane n).descriptor (s.lane n).completed) else s) = t at noticed ⊢
  split
  · exact noticed.trans ((t.setLane_same _ _).mono (by decide))
  · cases (s.laneDescriptor n).next with
    | none => exact noticed.trans ((t.setLane_same _ _).mono (by decide))
    | some g => exact noticed.trans (t.followLink_same n g)

theorem State.endDrain_same (n : Nat) (s : State) :
    SameOutside { lanes := true, outbound := true } s (s.endDrain n) :=
  ((s.setLane_same _ _).mono (by decide)).trans ((State.produceAll_same _ _).mono (by decide))

theorem State.laneResult_same (loss : Bool) (r : LaneItemResult) (s : State) :
    SameOutside { fault := true, queue := true, slots := true, lanes := true, outbound := true } s
      (s.laneResult loss r) := by
  unfold State.laneResult
  dsimp only
  refine SameOutside.trans
    ((s.setLane_same r.lane { s.lane r.lane with
      completed := (s.lane r.lane).completed + r.blocksDone }).mono (by decide)) ?_
  generalize r.lane = n
  generalize s.setLane n { s.lane n with completed := (s.lane n).completed + r.blocksDone } = t
  cases (t.lane n).state
  · exact sameOutside_refl _ _
  · dsimp only
    split
    · split
      · exact t.completeDescriptor_same n
      · exact sameOutside_refl _ _
    · exact (t.haltLane_same _ _ _).mono (by decide)
  · exact (t.endDrain_same n).mono (by decide)
  · dsimp only
    split
    · exact sameOutside_refl _ _
    · exact (t.endDrain_same n).mono (by decide)

/-! ### The head -/

theorem State.hold_same (s : State) : SameOutside { head := true } s s.hold := s.mapHead_same _

theorem State.meetSpeed_same (s : State) : SameOutside { head := true } s s.meetSpeed := by
  unfold State.meetSpeed
  split
  · exact s.hold_same
  · exact s.mapHead_same _

theorem State.meetBias_same (s : State) :
    SameOutside { head := true, port := true } s s.meetBias := by
  unfold State.meetBias
  cases s.passBias with
  | none => exact s.meetSpeed_same.mono (by decide)
  | some b =>
    dsimp only
    split
    · exact s.meetSpeed_same.mono (by decide)
    · exact ((s.mapHead_same _).mono (by decide)).trans ((State.act_same _ _).mono (by decide))

theorem State.commandSeek_same (n : Nat) (s : State) :
    SameOutside { head := true, port := true } s (s.commandSeek n) := by
  unfold State.commandSeek
  split
  · exact sameOutside_refl _ _
  · exact ((s.mapHead_same _).mono (by decide)).trans ((State.act_same _ _).mono (by decide))

theorem State.goToTrack_same (s : State) :
    SameOutside { head := true, port := true } s s.goToTrack := by
  unfold State.goToTrack
  split
  · exact sameOutside_refl _ _
  · split
    · exact s.meetBias_same
    · exact s.commandSeek_same 1

theorem State.startRun_same (r : Run) (passes : PassKind × List PassKind) (s : State) :
    SameOutside { head := true, port := true } s (s.startRun r passes) :=
  ((s.mapHead_same _).mono (by decide)).trans (State.goToTrack_same _)

theorem State.nextPass_same (s : State) :
    SameOutside { head := true, port := true } s s.nextPass := by
  unfold State.nextPass
  split
  · exact sameOutside_refl _ _
  · exact ((s.mapHead_same _).mono (by decide)).trans (State.meetBias_same _)

theorem State.startBlocks_same (it : WorkItem) (st : Option SlotState)
    (passes : PassKind × List PassKind) (s : State) :
    SameOutside { head := true, port := true } s (s.startBlocks it st passes) := by
  unfold State.startBlocks
  dsimp only
  cases s.itemPlace it it.blocksDone with
  | none => exact sameOutside_refl _ _
  | some p => exact s.startRun_same _ _

theorem State.waitForData_same (s : State) : SameOutside { head := true } s s.waitForData := by
  simp [SameOutside, State.waitForData, State.mapHead]

theorem State.formRun_same (s : State) :
    SameOutside { head := true, port := true } s s.formRun := by
  unfold State.formRun
  split
  · exact sameOutside_refl _ _
  · split
    · split
      · exact s.startBlocks_same _ _ _
      · exact s.waitForData_same.mono (by decide)
    · split
      · exact s.startBlocks_same _ _ _
      · exact (s.mapHead_same _).mono (by decide)
    · exact s.startBlocks_same _ _ _
    · exact sameOutside_refl _ _

theorem State.resumeFetch_same (s : State) :
    SameOutside { head := true, port := true } s s.resumeFetch := by
  unfold State.resumeFetch
  split
  · exact sameOutside_refl _ _
  · split
    · exact s.formRun_same
    · exact sameOutside_refl _ _

theorem State.settle_same (s : State) :
    SameOutside walking s s.settle :=
  ((s.placeAllPending_same.mono (by decide)).trans ((State.walk_same _).mono (by decide))).trans
    ((State.resumeFetch_same _).mono (by decide))

theorem State.finishItem_same (loss : Bool) (it : WorkItem) (o : ItemOutcome) (c : WriteCause)
    (s : State) :
    SameOutside { fault := true, queue := true, slots := true, lanes := true, outbound := true } s
      (s.finishItem loss it o c) := by
  unfold State.finishItem
  cases it.route with
  | tag t =>
    exact ((s.produce_same _).mono (by decide)).trans ((State.removeItem_same _ _).mono (by decide))
  | lane n =>
    exact ((s.removeItem_same _).mono (by decide)).trans (State.laneResult_same _ _ _)

/-- The end of an item touches neither the drive, the profile, the extents, the list nor the descriptors. -/
theorem State.endItem_same (o : ItemOutcome) (c : WriteCause) (s : State) :
    SameOutside { walking with fault := true } s (s.endItem o c) := by
  unfold State.endItem
  dsimp only
  refine SameOutside.trans (s.clearHead_same.mono (by decide)) ?_
  generalize s.clearHead = t
  split
  · exact sameOutside_refl _ _
  · split
    · simp [SameOutside, walking]
    · exact ((t.finishItem_same _ _ _ _).mono (by decide)).trans
        ((State.settle_same _).mono (by decide))

theorem State.setItemFlags_same (it : WorkItem) (change : Bool) (s : State) :
    SameOutside { extents := true } s (s.setItemFlags it change) := by
  unfold State.setItemFlags
  split
  · exact sameOutside_refl _ _
  · simp [SameOutside, State.setFlags]

theorem State.completeBlock_same (k : Nat) (s : State) :
    SameOutside { extents := true, queue := true, slots := true } s (s.completeBlock k) := by
  unfold State.completeBlock
  split
  · exact sameOutside_refl _ _
  · rename_i it rest _
    have flags := (State.setItemFlags_same it true
      (s.setQueue ({ it with blocksDone := it.blocksDone + 1 } :: rest))).mono
      (g := { extents := true, queue := true, slots := true }) (by decide)
    exact (SameOutside.trans (by simp [SameOutside]) flags).trans (by simp [SameOutside])

theorem State.completeBlocks_same (ks : List Nat) (s : State) :
    SameOutside { extents := true, queue := true, slots := true } s (s.completeBlocks ks) :=
  sameOutside_foldl _ (fun t k => t.completeBlock_same k) _ _

theorem State.startWriteBack_same (s : State) :
    SameOutside { head := true, port := true } s s.startWriteBack :=
  ((s.mapHead_same _).mono (by decide)).trans (State.startRun_same _ _ _)

theorem State.startControlRead_same (r : ControlRead) (s : State) :
    SameOutside { head := true, port := true } s (s.startControlRead r) := by
  unfold State.startControlRead
  dsimp only
  refine SameOutside.trans ((s.mapHead_same fun h =>
    { h.cleared with
      task := .controlRead r
      readIn := if r = .listEntries then h.readIn else [] }).mono (by decide)) ?_
  cases r <;> exact State.startRun_same _ _ _

theorem State.startRewrite_same (s : State) :
    SameOutside { head := true, port := true } s s.startRewrite := by
  unfold State.startRewrite
  split
  · split
    · exact sameOutside_refl _ _
    · exact s.startRun_same _ _
  · exact sameOutside_refl _ _

theorem State.spindleOff_same (s : State) :
    SameOutside { drive := true, head := true, port := true } s s.spindleOff := by
  unfold State.spindleOff
  split <;> simp [SameOutside, State.act, State.mapHead, State.mapDrive]

theorem State.mountFails_same (c : MountFault) (s : State) :
    SameOutside { drive := true, head := true, port := true, outbound := true } s (s.mountFails c) :=
  (((s.mapDrive_same _).mono (by decide)).trans ((State.spindleOff_same _).mono (by decide))).trans
    ((State.notify_same _ _).mono (by decide))

theorem State.cutHead_same (s : State) : SameOutside { head := true } s s.cutHead :=
  (s.mapHead_same _).trans (State.clearHead_same _)

end Sys2Proof.Machine
end

