-- ==== Sys2Proof/Laws/HeadFrames.lean ====
section
/-! SUPPORT. Which groups of state the ends of the head's tasks may change: the next run or the end of an item,
replacement, the mount's records, and an end from outside. -/

namespace Sys2Proof.Machine

open Sys2Proof.Safety

theorem State.continueItem_same (s : State) :
    SameOutside { walking with fault := true } s s.continueItem := by
  unfold State.continueItem
  split
  · exact sameOutside_refl _ _
  · split
    · exact s.endItem_same _ _
    · exact s.formRun_same.mono (by decide)

theorem State.takeUpFailing_same (s : State) :
    SameOutside { walking with fault := true, list := true } s s.takeUpFailing := by
  unfold State.takeUpFailing
  split
  · split
    · exact (s.endItem_same _ _).mono (by decide)
    · split
      · exact sameOutside_refl _ _
      · split
        · exact (s.endItem_same _ _).mono (by decide)
        · rename_i l _
          have allocated : SameOutside { walking with fault := true, list := true } s
              (((s.setList l).mapFront fun it =>
                { it with replacements := it.replacements + 1 }).mapHead fun h =>
                { h with relocations := h.relocations + 1 }) :=
            (SameOutside.trans (t := s.setList l) (by simp [SameOutside])
              ((State.mapFront_same _ _).mono (by decide))).trans
              ((State.mapHead_same _ _).mono (by decide))
          dsimp only
          split
          · exact allocated.trans ((State.startWriteBack_same _).mono (by decide))
          · exact allocated.trans ((State.startRewrite_same _).mono (by decide))
  · exact sameOutside_refl _ _

theorem State.mountSucceeds_same (s : State) :
    SameOutside { drive := true, outbound := true } s s.mountSucceeds := by
  unfold State.mountSucceeds
  split
  · exact sameOutside_refl _ _
  · exact ((s.mapDrive_same _).mono (by decide)).trans ((State.notify_same _ _).mono (by decide))

theorem State.formatRead_same (b : Option Block) (s : State) :
    SameOutside { drive := true, head := true, port := true, outbound := true } s (s.formatRead b) := by
  unfold State.formatRead
  split
  · exact s.mountFails_same _
  · exact ((s.mapDrive_same _).mono (by decide)).trans
      ((State.startControlRead_same _ _).mono (by decide))

theorem State.listRead_same (sectors : Option (List (Nat × Block))) (s : State) :
    SameOutside { drive := true, list := true, head := true, port := true, outbound := true } s
      (s.listRead sectors) := by
  unfold State.listRead
  split
  · exact (s.mountFails_same _).mono (by decide)
  · rename_i l _
    have loaded : SameOutside
        { drive := true, list := true, head := true, port := true, outbound := true } s
        (s.setList l) := by simp [SameOutside]
    dsimp only
    split
    · exact loaded.trans ((State.startControlRead_same _ _).mono (by decide))
    · exact loaded.trans ((State.mountSucceeds_same _).mono (by decide))

theorem State.extentsRead_same (b : Option Block) (s : State) :
    SameOutside { drive := true, extents := true, outbound := true } s (s.extentsRead b) := by
  unfold State.extentsRead
  split
  · rename_i es _
    exact SameOutside.trans (t := s.setExtents es) (by simp [SameOutside])
      ((State.mountSucceeds_same _).mono (by decide))
  · exact (SameOutside.trans (t := s.setExtents _) (by simp [SameOutside])
      ((State.notify_same _ _).mono (by decide))).trans
      ((State.mountSucceeds_same _).mono (by decide))

theorem State.controlReadFails_same (r : ControlRead) (s : State) :
    SameOutside { drive := true, extents := true, list := true, head := true, port := true,
                  outbound := true } s (s.controlReadFails r) := by
  unfold State.controlReadFails
  refine SameOutside.trans (s.clearHead_same.mono (by decide)) ?_
  cases r
  · exact (State.formatRead_same _ _).mono (by decide)
  · exact (State.listRead_same _ _).mono (by decide)
  · exact (State.listRead_same _ _).mono (by decide)
  · exact (State.extentsRead_same _ _).mono (by decide)

theorem State.notifyWriteFailed_same (o : ItemOutcome) (c : WriteCause) (s : State) :
    SameOutside { outbound := true } s (s.notifyWriteFailed o c) := s.notify_same _

/-- Whatever a rule ends the head's task with, profile, descriptors, receiver and wire are as before. -/
theorem State.endTask_same (o : ItemOutcome) (c : WriteCause) (s : State) :
    SameOutside resulting s (s.endTask o c) := by
  unfold State.endTask
  split
  · exact sameOutside_refl _ _
  · split
    · dsimp only
      refine SameOutside.trans ((s.notifyWriteFailed_same o c).mono (by decide)) ?_
      split
      · exact sameOutside_refl _ _
      · split
        · exact (State.endItem_same _ _ _).mono (by decide)
        · exact ((State.mapHead_same _ _).mono (by decide)).trans
            ((State.startRewrite_same _).mono (by decide))
    · exact (s.endItem_same _ _).mono (by decide)
  · exact ((s.mapDrive_same _).mono (by decide)).trans ((State.clearHead_same _).mono (by decide))
  · exact ((s.notifyWriteFailed_same _ _).mono (by decide)).trans
      ((State.clearHead_same _).mono (by decide))
  · exact ((s.notifyWriteFailed_same _ _).mono (by decide)).trans
      ((State.clearHead_same _).mono (by decide))
  · exact (s.controlReadFails_same _).mono (by decide)

theorem State.cutItem_same (s : State) : SameOutside { head := true } s s.cutItem := by
  unfold State.cutItem
  split
  · simp [SameOutside, State.mapHead]
  · exact s.cutHead_same

theorem State.endFromOutside_same (it : WorkItem) (o : ItemOutcome) (s : State) :
    SameOutside { walking with fault := true } s (s.endFromOutside it o) := by
  unfold State.endFromOutside
  have cut : SameOutside { walking with fault := true } s
      (if it.state = .inService then s.cutItem else s) := by
    split
    · exact s.cutItem_same.mono (by decide)
    · exact sameOutside_refl _ _
  exact (cut.trans ((State.finishItem_same _ _ _ _ _).mono (by decide))).trans
    ((State.settle_same _).mono (by decide))

end Sys2Proof.Machine
end

