-- ==== Sys2Proof/Laws/Ops.lean ====
section
/-! SUPPORT. What the shared operations do to the fields they change: outcomes and frames, bytes, slots, the
walk, lanes, the fault record, the list and the receiver. -/

namespace Sys2Proof.Machine

open Sys2Proof.Safety

/-! ### Outcomes -/

/-- Off the reset line a command that is no frame answers its effect. -/
theorem State.unlessHeld_free (s : State) (f : State → State) (h : s.held = false) :
    s.unlessHeld f = .next (f s) := by simp [State.unlessHeld, h]

/-- Off the reset line a command that is a frame answers its owner's effect on the taken frame. -/
theorem State.takeFrame_free (s : State) (f : State → State) (h : s.held = false) :
    s.takeFrame f = .next (f (taken s)) := by
  simp [State.takeFrame, State.unlessHeld, h, State.frameArrived, taken, Receiver.hunting]

/-- Every command answers a next state. -/
theorem State.unlessHeld_next (s : State) (f : State → State) : ∃ t, s.unlessHeld f = .next t :=
  ⟨_, rfl⟩

/-- The three ends of the link tests (R166). -/
theorem State.handOver_cases (kind cls tag : Byte) (lengthOk service : Bool) (owner : State → State)
    (s : State) :
    s.handOver kind cls tag lengthOk service owner =
      if lengthOk = false then s.refuse kind tag .badLength
      else if service = true ∧ cls.getLsbD 0 = false then s.refuse kind tag .cls
      else owner s := by
  cases lengthOk <;> cases service <;> cases h : cls.getLsbD 0 <;>
    simp only [State.handOver, linkRefusal, classOf, h] <;> rfl

/-! ### Bytes -/

@[simp] theorem toBytes_length (n v : Nat) : (toBytes n v).length = n := by
  induction n generalizing v with
  | zero => rfl
  | succ n ih => simp [toBytes, ih]

theorem ofBytes_append_one (bs : List Byte) (b : Byte) :
    ofBytes (bs ++ [b]) = ofBytes bs * 256 + b.toNat := by simp [ofBytes]

theorem field_one (b : Byte) (bs : List Byte) : field (b :: bs) 0 1 = b.toNat := by
  simp [field, ofBytes]

theorem field_two (a b : Byte) (bs : List Byte) :
    field (a :: b :: bs) 0 2 = a.toNat * 256 + b.toNat := by
  simp [field, ofBytes, List.range_succ]

@[simp] theorem chunks_length (n k : Nat) (bs : List Byte) : (chunks n k bs).length = k := by
  induction k generalizing bs with
  | zero => rfl
  | succ k ih => simp [chunks, ih]

/-- The value the low two bits of a SET PROFILE byte select (R174). -/
theorem select_eq {α : Type} (b : Byte) (one two old : α) :
    select b one two old =
      if b.toNat % 4 = 1 then one else if b.toNat % 4 = 2 then two else old := by
  have h0 : b.getLsbD 0 = decide (b.toNat % 2 = 1) := by simp [BitVec.getLsbD, Nat.testBit_zero]
  have h1 : b.getLsbD 1 = decide (b.toNat / 2 % 2 = 1) := by simp [BitVec.getLsbD, Nat.testBit_succ]
  simp only [select, h0, h1]
  by_cases p : b.toNat % 2 = 1 <;> by_cases q : b.toNat / 2 % 2 = 1 <;> simp [p, q] <;>
    (repeat' split) <;> first | rfl | omega

/-! ### The receiver -/

theorem Receiver.bytes_append (r : Receiver) (xs ys : List Byte) :
    r.bytes (xs ++ ys) =
      (((r.bytes xs).1.bytes ys).1, (r.bytes xs).2 ++ ((r.bytes xs).1.bytes ys).2) := by
  induction xs generalizing r with
  | nil => simp [Receiver.bytes]
  | cons x xs ih => simp [Receiver.bytes, ih, List.append_assoc]

/-- A start byte begins a frame in every state (R164). -/
theorem Receiver.byte_start (r : Receiver) : r.byte startByte = (⟨.assembling, []⟩, none) := by
  obtain ⟨st, as⟩ := r
  cases st <;> simp [Receiver.byte, startByte, endByte]

/-! ### Slots -/

@[simp] theorem moveSlot_length (id k : Nat) (st : SlotState) (sl : List Slot) :
    (moveSlot id k st sl).length = sl.length := by simp [moveSlot]

@[simp] theorem fillSlot_length (id k : Nat) (st : SlotState) (d : Block) (sl : List Slot) :
    (fillSlot id k st d sl).length = sl.length := by simp [fillSlot]

@[simp] theorem freeSlot_length (id k : Nat) (sl : List Slot) :
    (freeSlot id k sl).length = sl.length := by simp [freeSlot]

@[simp] theorem freeItemSlots_length (ids : List Nat) (sl : List Slot) :
    (freeItemSlots ids sl).length = sl.length := by simp [freeItemSlots]

@[simp] theorem giveSlots_length (it : WorkItem) (k n : Nat) (sl : List Slot) :
    (giveSlots it k n sl).length = sl.length := by
  induction sl generalizing k n with
  | nil => simp [giveSlots]
  | cons x xs ih =>
    cases n with
    | zero => simp [giveSlots]
    | succ n => by_cases h : x.state = .free <;> simp [giveSlots, h, ih]

/-- Giving slots to an item leaves every slot that is not FREE as it is. -/
theorem giveSlots_keeps (it : WorkItem) (k n : Nat) (sl : List Slot) (i : Nat) (x : Slot)
    (hx : sl[i]? = some x) (hs : x.state ≠ .free) : (giveSlots it k n sl)[i]? = some x := by
  induction sl generalizing k n i with
  | nil => simp at hx
  | cons y ys ih =>
    cases n with
    | zero => simpa [giveSlots] using hx
    | succ n =>
      cases i with
      | zero =>
        obtain rfl : y = x := by simpa using hx
        simp [giveSlots, hs]
      | succ i =>
        have hx' : ys[i]? = some x := by simpa using hx
        by_cases h : y.state = .free <;> simp [giveSlots, h, ih _ _ _ hx']

/-- The slot that serves a block takes the data it is filled with. -/
theorem slotState_fillSlot (id k : Nat) (st : SlotState) (d : Block) (sl : List Slot)
    (hst : st ≠ .free) (h : slotState id k sl ≠ .free) :
    slotState id k (fillSlot id k st d sl) = st ∧ slotData id k (fillSlot id k st d sl) = d := by
  induction sl with
  | nil => simp [slotState] at h
  | cons x xs ih =>
    by_cases hx : x.serves id k = true
    · have hx' : x.state ≠ .free ∧ x.holder = some id ∧ x.block = k := by
        simpa [Slot.serves] using hx
      simp [fillSlot, slotState, slotData, Slot.serves, hx', hst]
    · have hx' : x.serves id k = false := by simpa using hx
      have := ih (by simpa [slotState, hx'] using h)
      simpa [fillSlot, slotState, slotData, hx'] using this

/-! ### The walk and the head's resumption -/

/-- A FETCH that does not wait for a slot is not let go on. -/
theorem State.resumeFetch_of_not_waiting (s : State) (h : s.head.activity ≠ .waitingSlot) :
    s.resumeFetch = s := by
  unfold State.resumeFetch
  split
  · rfl
  · simp [h]

theorem State.walk_head (s : State) : s.walk.head = s.head := by
  unfold State.walk
  split <;> simp [State.produceAll]

theorem State.placeOnePending_head (s : State) : s.placeOnePending.head = s.head := by
  unfold State.placeOnePending
  split
  · split <;> rfl
  · rfl

theorem State.placeAllPending_head (s : State) : s.placeAllPending.head = s.head := by
  unfold State.placeAllPending
  generalize laneNumbers = ns
  induction ns generalizing s with
  | nil => rfl
  | cons n ns ih => rw [List.foldl_cons, ih, State.placeOnePending_head]

/-- Outside WAITING_SLOT an event closes with the places given and the walk alone. -/
theorem State.settle_of_not_waiting (s : State) (h : s.head.activity ≠ .waitingSlot) :
    s.settle = s.placeAllPending.walk :=
  State.resumeFetch_of_not_waiting _ (by rwa [State.walk_head, State.placeAllPending_head])

@[simp] theorem State.clearHead_task (s : State) : s.clearHead.head.task = .none := rfl
@[simp] theorem State.clearHead_activity (s : State) : s.clearHead.head.activity = .idle := rfl
@[simp] theorem State.clearHead_track (s : State) : s.clearHead.head.track = s.head.track := rfl
@[simp] theorem State.clearHead_bias (s : State) : s.clearHead.head.bias = s.head.bias := rfl
@[simp] theorem State.clearHead_run (s : State) : s.clearHead.head.run = none := rfl
@[simp] theorem State.clearHead_dataTimer (s : State) : s.clearHead.dataTimer = none := rfl

/-! ### Lanes -/

/-- A replaced lane reads as what it was replaced by, and every other lane as before. -/
theorem State.lane_setLane (s : State) (n m : Nat) (l : Lane) :
    (s.setLane n l).lane m = if m = n ∧ n < s.lanes.length then l else s.lane m := by
  unfold State.lane State.setLane
  by_cases h : m = n
  · subst h
    by_cases hl : m < s.lanes.length
    · simp [hl]
    · simp [hl, List.set_eq_of_length_le (by omega : s.lanes.length ≤ m)]
  · simp [h, Ne.symm h]

/-- The state of a lane that halts, for a number within the table (R148). -/
theorem State.haltSilently_lane (removing : Bool) (n : Nat) (c : HaltCause) (s : State)
    (h : n < s.lanes.length) :
    (s.haltSilently removing n c).lane n =
      { s.lane n with state := .halted, halt := some c, pendingPost := none } := by
  have kept : (s.removeWaiting n).lane n = s.lane n := rfl
  have size : (s.removeWaiting n).lanes.length = s.lanes.length := rfl
  cases removing <;> simp [State.haltSilently, State.lane_setLane, kept, size, h]

/-! ### The fault record -/

/-- The record is EMPTY exactly when nothing is captured (R45). -/
theorem FaultRecord.state_cases (r : FaultRecord) :
    (r.state = .empty ↔ r.captured = none) ∧
      (r.state = .held ↔ r.captured ≠ none ∧ r.overrun = false) ∧
      (r.state = .heldOverrun ↔ r.captured ≠ none ∧ r.overrun = true) := by
  obtain ⟨c, e, se, o, cap⟩ := r
  cases cap <;> cases o <;> simp [FaultRecord.state]

/-- What a violation does to the record itself (R46, R48, R50). -/
theorem State.recordViolation_fault (poster : Option Nat) (a : Access) (c : CauseSet) (s : State) :
    (s.recordViolation poster a c).fault = match s.fault.state with
      | .empty => ⟨c, false, false, false, some (a.captured (offendingOffset (s.entry a.extent) a c))⟩
      | .held => { s.fault with overrun := true }
      | .heldOverrun => s.fault := by
  have keep : ∀ t : State, (t.overrunLanes poster c).fault = t.fault := by
    intro t
    unfold State.overrunLanes
    generalize laneNumbers = ns
    induction ns generalizing t with
    | nil => rfl
    | cons n ns ih =>
      rw [List.foldl_cons, ih]
      split <;> simp [State.haltSilently, State.setLane, State.removeWaiting]
  unfold State.recordViolation
  cases s.fault.state <;> simp [State.notify, State.produce, keep]

/-! ### The replacement list -/

/-- A source that was just inserted is found with its spare. -/
theorem lookupEntry_insertEntry (p n : Nat) (es : List ListEntry) (h : lookupEntry es p = none) :
    lookupEntry (insertEntry ⟨p, n⟩ es) p = some n := by
  induction es with
  | nil => simp [insertEntry, lookupEntry]
  | cons e es ih =>
    by_cases he : e.source = p
    · simp [lookupEntry, he] at h
    · have h' : lookupEntry es p = none := by simpa [lookupEntry, he] using h
      by_cases hl : p < e.source
      · simp [insertEntry, lookupEntry, hl]
      · simp [insertEntry, lookupEntry, hl, he, ih h']

theorem insertEntry_length (e : ListEntry) (es : List ListEntry) :
    (insertEntry e es).length = es.length + 1 := by
  induction es with
  | nil => rfl
  | cons x xs ih => by_cases h : e.source < x.source <;> simp [insertEntry, h, ih]

/-- An allocation fails with NO_SPARE or LIST_FULL and with nothing else (R61, R62). -/
theorem allocate_failed (spares p : Nat) (l : ReplacementList) (c : WriteCause)
    (h : allocate spares p l = .failed c) : c = .noSpare ∨ c = .listFull := by
  unfold allocate at h
  split at h <;> (repeat' split at h) <;> simp_all

end Sys2Proof.Machine
end

