-- ==== Sys2Proof/Laws/PerInstr.lean ====
section
/-! SUPPORT. For each command: the content it is sent as, when it is a whole frame, is not empty and fits the
frame content limit (R163). -/

namespace Sys2Proof.Laws.ContentFits

open Sys2Proof.Machine

/-- The content of the command's frame is not empty and fits the limit of 1040 bytes (R163). -/
def Statement (i : Instr) : Prop :=
  ∀ content, WellFormed i = true → encodeContent i = some content →
    content ≠ [] ∧ content.length ≤ 1040

/-- An order's content is its four-byte header and its parameters. -/
theorem order_content (kind cls tag : Byte) (params content : List Byte)
    (hp : paramsFit params = true) (he : some (orderContent kind cls tag params) = some content) :
    content ≠ [] ∧ content.length ≤ 1040 := by
  have hp' : params.length ≤ 1036 := by
    simpa [Config.parameterTop] using (of_decide_eq_true hp : params.length ≤ Config.parameterTop)
  obtain rfl : orderContent kind cls tag params = content := by simpa using he
  exact ⟨by simp [orderContent], by simp [orderContent]; omega⟩

theorem fetch (c t : Byte) (p : List Byte) : Statement (.fetch c t p) :=
  fun _ hw he => order_content _ c t p _ hw he

theorem place (c t : Byte) (p : List Byte) : Statement (.place c t p) :=
  fun _ hw he => order_content _ c t p _ hw he

theorem blank (c t : Byte) (p : List Byte) : Statement (.blank c t p) :=
  fun _ hw he => order_content _ c t p _ hw he

theorem storeExtents (c t : Byte) (p : List Byte) : Statement (.storeExtents c t p) :=
  fun _ hw he => order_content _ c t p _ hw he

theorem flushList (c t : Byte) (p : List Byte) : Statement (.flushList c t p) :=
  fun _ hw he => order_content _ c t p _ hw he

theorem unload (c t : Byte) (p : List Byte) : Statement (.unload c t p) :=
  fun _ hw he => order_content _ c t p _ hw he

theorem startLane (c t : Byte) (p : List Byte) : Statement (.startLane c t p) :=
  fun _ hw he => order_content _ c t p _ hw he

theorem stopLane (c t : Byte) (p : List Byte) : Statement (.stopLane c t p) :=
  fun _ hw he => order_content _ c t p _ hw he

theorem loadExtents (c t : Byte) (p : List Byte) : Statement (.loadExtents c t p) :=
  fun _ hw he => order_content _ c t p _ hw he

theorem showExtents (c t : Byte) (p : List Byte) : Statement (.showExtents c t p) :=
  fun _ hw he => order_content _ c t p _ hw he

theorem markAll (c t : Byte) (p : List Byte) : Statement (.markAll c t p) :=
  fun _ hw he => order_content _ c t p _ hw he

theorem showList (c t : Byte) (p : List Byte) : Statement (.showList c t p) :=
  fun _ hw he => order_content _ c t p _ hw he

theorem loadDescriptors (c t : Byte) (p : List Byte) : Statement (.loadDescriptors c t p) :=
  fun _ hw he => order_content _ c t p _ hw he

theorem showDescriptors (c t : Byte) (p : List Byte) : Statement (.showDescriptors c t p) :=
  fun _ hw he => order_content _ c t p _ hw he

theorem showFault (c t : Byte) (p : List Byte) : Statement (.showFault c t p) :=
  fun _ hw he => order_content _ c t p _ hw he

theorem clearFault (c t : Byte) (p : List Byte) : Statement (.clearFault c t p) :=
  fun _ hw he => order_content _ c t p _ hw he

theorem setProfile (c t : Byte) (p : List Byte) : Statement (.setProfile c t p) :=
  fun _ hw he => order_content _ c t p _ hw he

theorem showState (c t : Byte) (p : List Byte) : Statement (.showState c t p) :=
  fun _ hw he => order_content _ c t p _ hw he

theorem restart (c t : Byte) (p : List Byte) : Statement (.restart c t p) :=
  fun _ hw he => order_content _ c t p _ hw he

theorem unknownOrder (k c t : Byte) (p : List Byte) : Statement (.unknownOrder k c t p) :=
  fun _ hw he => order_content k c t p _ (by
    have hw' : (!(catalogue.contains k) && paramsFit p) = true := hw
    simp only [Bool.and_eq_true] at hw'
    exact hw'.2) he

theorem badFrame (x : List Byte) : Statement (.badFrame x) := fun _ _ he => nomatch he

theorem dataFrame (route : Route) (index : Word16) (d : Block) :
    Statement (.dataFrame route index d) := by
  intro content hw he
  have hd : d.length = 1024 := by
    have hw' : (routeFits route && decide (d.length = 1024)) = true := hw
    simp only [Bool.and_eq_true, decide_eq_true_eq] at hw'
    exact hw'.2
  obtain rfl := Option.some.inj he
  cases route <;> simp [routeContent, hd]

theorem sendBlock : Statement .sendBlock := fun _ _ he => nomatch he

theorem dataFrameProduced : Statement .dataFrameProduced := fun _ _ he => nomatch he

theorem frameSent : Statement .frameSent := fun _ _ he => nomatch he

theorem sectorIdArrival (x y : Nat) (z : Bool) : Statement (.sectorIdArrival x y z) := fun _ _ he => nomatch he

theorem indexArrival (x : Nat) : Statement (.indexArrival x) := fun _ _ he => nomatch he

theorem readDataEvent (x y : Nat) (z : ReadResult) : Statement (.readDataEvent x y z) := fun _ _ he => nomatch he

theorem verifyCompareResult (x y : Nat) (z : Bool) : Statement (.verifyCompareResult x y z) := fun _ _ he => nomatch he

theorem seekComplete : Statement .seekComplete := fun _ _ he => nomatch he

theorem biasReady : Statement .biasReady := fun _ _ he => nomatch he

theorem insertion (x : Bool) : Statement (.insertion x) := fun _ _ he => nomatch he

theorem ejectButton : Statement .ejectButton := fun _ _ he => nomatch he

theorem cartridgeLost : Statement .cartridgeLost := fun _ _ he => nomatch he

theorem hardwareResetAsserted : Statement .hardwareResetAsserted := fun _ _ he => nomatch he

theorem hardwareResetReleased (x : Straps) (y : Option Bool) : Statement (.hardwareResetReleased x y) := fun _ _ he => nomatch he

theorem seekTimeout : Statement .seekTimeout := fun _ _ he => nomatch he

theorem biasTimeout : Statement .biasTimeout := fun _ _ he => nomatch he

theorem holdTimeout : Statement .holdTimeout := fun _ _ he => nomatch he

theorem spinUpTimeout : Statement .spinUpTimeout := fun _ _ he => nomatch he

theorem dataTimeout : Statement .dataTimeout := fun _ _ he => nomatch he

theorem indexLost : Statement .indexLost := fun _ _ he => nomatch he

theorem sectorMissing : Statement .sectorMissing := fun _ _ he => nomatch he

theorem itemTakeUp : Statement .itemTakeUp := fun _ _ he => nomatch he

theorem writeBackRequestServed : Statement .writeBackRequestServed := fun _ _ he => nomatch he

theorem lanePost (x : Nat) : Statement (.lanePost x) := fun _ _ he => nomatch he

theorem pendingPostPlaced : Statement .pendingPostPlaced := fun _ _ he => nomatch he

theorem unloadCompletion : Statement .unloadCompletion := fun _ _ he => nomatch he

theorem abort (x : List Byte) : Statement (.abort x) := fun _ _ he => nomatch he

end Sys2Proof.Laws.ContentFits
end

