-- ==== Sys2Proof/Laws/Settle.lean ====
section
/-! SUPPORT. What closes an event, once and for all: the free places that go to the pending lanes, the walk, and
the FETCH that goes on; and the end of an item in the words of the statements (R84, R87, R90, R113, R121). -/

namespace Sys2Proof.Machine

open Sys2Proof.Safety

/-! ### The free places -/

theorem State.lowestPending_eq (s : State) (ns : List Nat) :
    s.lowestPending ns =
      (ns.filterMap fun n => (s.lane n).pendingPost.map fun p => (n, p)).head? := by
  induction ns with
  | nil => rfl
  | cons n ns ih => cases h : (s.lane n).pendingPost <;> simp [State.lowestPending, h, ih]

theorem State.laneNumbers_eq : laneNumbers = [0, 1, 2, 3] := rfl

/-- A state that differs from `s` in the queue, the next handle and the lanes alone. -/
theorem State.eq_of_same {s t : State} {q : List WorkItem} {n : Nat} {l : List Lane}
    (same : SameOutside { queue := true, lanes := true } s t) (hq : t.queue = q) (hn : t.nextId = n)
    (hl : t.lanes = l) : t = ((s.setQueue q).setNextId n).setLanes l := by
  cases s; cases t
  simp_all [SameOutside, State.setQueue, State.setNextId, State.setLanes]

/-- Nothing is due: no place is given. -/
theorem State.placeOnePending_none (s : State) (h : placesGiven s = []) : s.placeOnePending = s := by
  unfold State.placeOnePending
  split
  · rename_i free
    have free' : s.queue.length < 8 := of_decide_eq_true free
    have none : s.lowestPending laneNumbers = none := by
      rw [State.lowestPending_eq, State.laneNumbers_eq]
      have : ∀ l : List (Nat × Piece), l.take (8 - s.queue.length) = [] → l.head? = none := by
        intro l hl
        cases l with
        | nil => rfl
        | cons x xs =>
          obtain ⟨m, hm⟩ : ∃ m, 8 - s.queue.length = m + 1 := ⟨7 - s.queue.length, by omega⟩
          simp [hm] at hl
      exact this _ h
    rw [none]
  · rfl

/-- One place given: the item at the tail, the mark cleared, the other lanes still due. -/
theorem State.placeOnePending_cons (s : State) (n : Nat) (p : Piece) (rest : List (Nat × Piece))
    (h : placesGiven s = (n, p) :: rest) :
    s.placeOnePending = (s.setLane n { s.lane n with pendingPost := none }).addItem
        (pieceItem s s.nextId n p) ∧
      placesGiven s.placeOnePending = rest := by
  have room : s.queue.length < 8 := by
    by_contra hc
    have : 8 - s.queue.length = 0 := by omega
    simp [placesGiven, this] at h
  have low : s.lowestPending laneNumbers = some (n, p) := by
    rw [State.lowestPending_eq, State.laneNumbers_eq]
    obtain ⟨m, hm⟩ : ∃ m, 8 - s.queue.length = m + 1 := ⟨7 - s.queue.length, by omega⟩
    unfold placesGiven at h
    rw [hm] at h
    revert h
    generalize List.filterMap _ _ = l
    cases l with
    | nil => simp
    | cons x xs => intro h; simp only [List.take_succ_cons, List.cons.injEq] at h; simp [h.1]
  have eq : s.placeOnePending = (s.setLane n { s.lane n with pendingPost := none }).addItem
      (pieceItem s s.nextId n p) := by
    simp only [State.placeOnePending, State.placeFree, Config.queuePlaces, room, decide_true, if_true, low]
    rfl
  refine ⟨eq, ?_⟩
  rw [eq]
  have lanes : ∀ m, (((s.setLane n { s.lane n with pendingPost := none }).addItem
      (pieceItem s s.nextId n p)).lane m).pendingPost =
      if m = n then none else (s.lane m).pendingPost := by
    intro m
    have keep : ((s.setLane n { s.lane n with pendingPost := none }).addItem
      (pieceItem s s.nextId n p)).lane m = (s.setLane n { s.lane n with pendingPost := none }).lane m := rfl
    rw [keep, State.lane_setLane]
    by_cases hm : m = n
    · subst hm
      by_cases hl : m < s.lanes.length
      · simp [hl]
      · have : s.lane m = Lane.reset := by
          simp [State.lane, List.getD, List.getElem?_eq_none (by omega : s.lanes.length ≤ m)]
        simp [hl, this, Lane.reset]
    · simp [hm]
  have len : ((s.setLane n { s.lane n with pendingPost := none }).addItem
      (pieceItem s s.nextId n p)).queue.length = s.queue.length + 1 := by
    simp [State.addItem, State.setLane]
  unfold placesGiven at h ⊢
  rw [len]
  simp only [lanes]
  obtain ⟨m, hm⟩ : ∃ m, 8 - s.queue.length = m + 1 := ⟨7 - s.queue.length, by omega⟩
  rw [hm] at h
  rw [show 8 - (s.queue.length + 1) = m by omega]
  rcases h0 : (s.lane 0).pendingPost with _ | a <;> rcases h1 : (s.lane 1).pendingPost with _ | b <;>
    rcases h2 : (s.lane 2).pendingPost with _ | c <;> rcases h3 : (s.lane 3).pendingPost with _ | d <;>
    simp [h0, h1, h2, h3, List.filterMap] at h <;>
    obtain ⟨⟨rfl, rfl⟩, rfl⟩ := h <;> simp [List.filterMap, h0, h1, h2, h3]

/-- The due places are given: the items at the tail, their handles used up, the marks cleared, nothing else. -/
theorem State.placeAllPending_eq (s : State) : s.placeAllPending = placesTaken s := by
  have go : ∀ (ns : List Nat) (s : State), (placesGiven s).length ≤ ns.length →
      (ns.foldl (fun s _ => s.placeOnePending) s).queue = s.queue ++
        ((placesGiven s).zipIdx.map fun x => pieceItem s (s.nextId + x.2) x.1.1 x.1.2) ∧
      (ns.foldl (fun s _ => s.placeOnePending) s).nextId = s.nextId + (placesGiven s).length ∧
      (ns.foldl (fun s _ => s.placeOnePending) s).lanes = (s.lanes.mapIdx fun n l =>
        if n ∈ (placesGiven s).map Prod.fst then { l with pendingPost := none } else l) := by
    intro ns
    induction ns with
    | nil =>
      intro s h
      have : placesGiven s = [] := by simpa using h
      refine ⟨by simp [this], by simp [this], List.ext_getElem? fun i => ?_⟩
      simp [this]
    | cons m ns ih =>
      intro s h
      rw [List.foldl_cons]
      rcases hp : placesGiven s with _ | ⟨⟨n, p⟩, rest⟩
      · rw [s.placeOnePending_none hp]
        have := ih s (by simp [hp])
        simpa [hp] using this
      · obtain ⟨eq, more⟩ := s.placeOnePending_cons n p rest hp
        have := ih s.placeOnePending (by rw [more]; simp [hp] at h; omega)
        rw [more] at this
        rw [this.1, this.2.1, this.2.2, eq]
        refine ⟨?_, by simp [State.addItem, State.setLane]; omega, ?_⟩
        · simp [State.addItem, State.setLane, List.zipIdx_cons, pieceItem, Nat.add_assoc,
            Nat.add_comm 1, List.zipIdx_succ]
        · refine List.ext_getElem? fun i => ?_
          simp only [State.addItem, State.setLane, State.setNextId_lanes, State.setQueue_lanes,
            State.setLanes_lanes, List.getElem?_mapIdx, List.getElem?_set, List.map_cons, List.mem_cons]
          by_cases hi : n = i
          · subst hi
            by_cases hl : n < s.lanes.length
            · simp [hl, State.lane, List.getD]
            · simp [hl]
          · have hi' : ¬ i = n := fun h => hi h.symm
            simp only [hi, hi', if_false, false_or]
  obtain ⟨q, n, l⟩ := go laneNumbers s (by
    rw [State.laneNumbers_eq]
    unfold placesGiven
    rw [List.length_take]
    exact Nat.le_trans (Nat.min_le_right _ _) (List.length_filterMap_le _ _))
  exact State.eq_of_same s.placeAllPending_same q n l

/-- Where none is due, none is given. -/
theorem placesTaken_none (s : State) (h : placesGiven s = []) : placesTaken s = s := by
  have : (s.lanes.mapIdx fun _ l => l) = s.lanes := List.ext_getElem? fun i => by simp
  simp only [placesTaken, h, List.zipIdx_nil, List.map_nil, List.append_nil, List.length_nil, Nat.add_zero,
    List.not_mem_nil, if_false, this]
  rfl

/-- After the places have gone round, none is due. -/
theorem State.placesGiven_placeAllPending (s : State) : placesGiven s.placeAllPending = [] := by
  have go : ∀ (ns : List Nat) (s : State), (placesGiven s).length ≤ ns.length →
      placesGiven (ns.foldl (fun s _ => s.placeOnePending) s) = [] := by
    intro ns
    induction ns with
    | nil => intro s h; simpa using h
    | cons m ns ih =>
      intro s h
      rw [List.foldl_cons]
      rcases hp : placesGiven s with _ | ⟨⟨n, p⟩, rest⟩
      · rw [s.placeOnePending_none hp]
        exact ih s (by simp [hp])
      · have more := (s.placeOnePending_cons n p rest hp).2
        exact ih _ (by rw [more]; simp [hp] at h; omega)
  refine go laneNumbers s ?_
  rw [State.laneNumbers_eq]
  unfold placesGiven
  rw [List.length_take]
  exact Nat.le_trans (Nat.min_le_right _ _) (List.length_filterMap_le _ _)

/-- The places that are due are read off the lanes and the length of the queue. -/
theorem placesGiven_congr {s t : State} (l : t.lanes = s.lanes) (q : t.queue.length = s.queue.length) :
    placesGiven t = placesGiven s := by
  simp only [placesGiven, State.lane, l, q]

/-! ### The walk -/

theorem walkItems_spec (frontId : Nat) (q : List WorkItem) (sl : List Slot) :
    (walkItems frontId q sl).1.map bareItem = q.map bareItem ∧
      (∀ (i : Nat) (x : Slot), sl[i]? = some x → x.state ≠ .free →
        (walkItems frontId q sl).2.1[i]? = some x) ∧
      CreditsOnly (walkItems frontId q sl).2.2 := by
  induction q generalizing sl with
  | nil => exact ⟨rfl, fun _ _ h _ => h, by simp [walkItems, CreditsOnly]⟩
  | cons it rest ih =>
    have credit : ∀ n, CreditsOnly (if it.kind = .place ∧ 0 < n then [Frame.credit it.route n] else []) := by
      intro n f hf
      split at hf
      · exact ⟨_, _, by simpa using hf⟩
      · simp at hf
    simp only [walkItems]
    split
    · exact ⟨by simp [bareItem], fun i x hx hs => giveSlots_keeps _ _ _ _ _ _ hx hs, credit _⟩
    · obtain ⟨h1, h2, h3⟩ := ih (giveSlots it it.given (walkGives frontId it sl) sl)
      refine ⟨by simp [h1, bareItem], fun i x hx hs => h2 i x (giveSlots_keeps _ _ _ _ _ _ hx hs) hs, ?_⟩
      intro f hf
      rcases List.mem_append.mp hf with hf | hf
      · exact credit _ f hf
      · exact h3 f hf

/-- What a walk can do: it changes no count but `given`, no slot in use, and sends CREDITs alone (R121, R123). -/
theorem State.walk_spec (s : State) :
    s.walk.queue.map bareItem = s.queue.map bareItem ∧
      (∃ credits, CreditsOnly credits ∧ s.walk.outbound = s.outbound ++ credits) ∧
      (∀ (i : Nat) (x : Slot), s.slots[i]? = some x → x.state ≠ .free → s.walk.slots[i]? = some x) := by
  unfold State.walk
  split
  · exact ⟨rfl, ⟨[], by simp [CreditsOnly], by simp⟩, fun i x hx _ => hx⟩
  · rename_i front rest hq
    obtain ⟨h1, h2, h3⟩ := walkItems_spec front.id s.queue s.slots
    exact ⟨by simpa [State.produceAll, hq] using h1, ⟨_, h3, by simp [State.produceAll]⟩,
      fun i x hx hs => by simpa [State.produceAll] using h2 i x hx hs⟩

theorem freeCount_cons (x : Slot) (xs : List Slot) :
    freeCount (x :: xs) = (if x.state = .free then 1 else 0) + freeCount xs := by
  by_cases h : x.state = .free <;> simp [freeCount, h]; omega

theorem heldBehind_cons (frontId : Nat) (x : Slot) (xs : List Slot) :
    heldBehind frontId (x :: xs) =
      (if x.state ≠ .free ∧ x.holder ≠ some frontId then 1 else 0) + heldBehind frontId xs := by
  by_cases h : x.state ≠ .free ∧ x.holder ≠ some frontId <;> simp [heldBehind, h]; omega

/-- Slots given are no longer FREE, and those of an item behind the front count toward its 24. -/
theorem giveSlots_counts (frontId : Nat) (it : WorkItem) (k n : Nat) (sl : List Slot) (h : n ≤ freeCount sl) :
    freeCount (giveSlots it k n sl) + n = freeCount sl ∧
      (it.id ≠ frontId → heldBehind frontId (giveSlots it k n sl) = heldBehind frontId sl + n) := by
  induction sl generalizing k n with
  | nil =>
    have : n = 0 := by simpa [freeCount] using h
    simp [giveSlots, freeCount, heldBehind, this]
  | cons x xs ih =>
    cases n with
    | zero => simp [giveSlots]
    | succ n =>
      rw [freeCount_cons] at h
      have used : (x.give it k).state ≠ .free := by
        unfold Slot.give
        by_cases hk : it.kind = .place <;> simp [hk]
      by_cases hx : x.state = .free
      · simp only [hx, if_true] at h
        obtain ⟨h1, h2⟩ := ih (k + 1) n (by omega)
        simp only [giveSlots, hx, if_true, freeCount_cons, heldBehind_cons, used, if_false]
        refine ⟨by omega, fun hid => ?_⟩
        have : (x.give it k).holder ≠ some frontId := by simpa [Slot.give] using hid
        simp [this, used, h2 hid]
        omega
      · obtain ⟨h1, h2⟩ := ih k (n + 1) (by simp [hx] at h; omega)
        simp only [giveSlots, hx, if_false, freeCount_cons, heldBehind_cons]
        exact ⟨by omega, fun hid => by rw [h2 hid]; omega⟩

@[simp] theorem giveSlots_zero (it : WorkItem) (k : Nat) (sl : List Slot) : giveSlots it k 0 sl = sl := by
  cases sl <;> rfl

theorem WorkItem.slotless_given (it : WorkItem) (n : Nat) :
    ({ it with given := it.given + n } : WorkItem).slotless = it.slotless - n := by
  unfold WorkItem.slotless
  dsimp only
  split <;> omega

/-- What the walk has left it does not give: at the item it ends at, no slot is FREE or the share is used up. -/
theorem walkGives_after (frontId : Nat) (it : WorkItem) (sl : List Slot) :
    walkGives frontId { it with given := it.given + walkGives frontId it sl }
      (giveSlots it it.given (walkGives frontId it sl) sl) = 0 := by
  have le : walkGives frontId it sl ≤ it.slotless := by
    unfold walkGives; exact Nat.min_le_left _ _
  have free : walkGives frontId it sl ≤ freeCount sl := by
    unfold walkGives; dsimp only; split <;> omega
  obtain ⟨h1, h2⟩ := giveSlots_counts frontId it it.given (walkGives frontId it sl) sl free
  have left := it.slotless_given (walkGives frontId it sl)
  by_cases hid : it.id = frontId
  · have hn : walkGives frontId it sl = min it.slotless (freeCount sl) := by simp [walkGives, hid]
    rw [walkGives]
    dsimp only
    rw [left, if_pos hid]
    omega
  · have hn : walkGives frontId it sl =
        min it.slotless (min (freeCount sl) (Config.slotsBehindFront - heldBehind frontId sl)) := by
      simp [walkGives, hid]
    have h2 := h2 hid
    rw [walkGives]
    dsimp only
    rw [left, if_neg hid]
    omega

/-- A second walk gives nothing. -/
theorem walkItems_walkItems (frontId : Nat) (q : List WorkItem) (sl : List Slot) :
    let w := walkItems frontId q sl
    walkItems frontId w.1 w.2.1 = (w.1, w.2.1, []) := by
  induction q generalizing sl with
  | nil => rfl
  | cons it rest ih =>
    have le : walkGives frontId it sl ≤ it.slotless := by
      unfold walkGives; exact Nat.min_le_left _ _
    have left := it.slotless_given (walkGives frontId it sl)
    simp only [walkItems]
    split
    · rename_i h
      simp only [walkItems, walkGives_after, giveSlots_zero, left, Nat.add_zero]
      simp [show 0 < it.slotless - walkGives frontId it sl by omega]
    · rename_i h
      have zero : ({ it with given := it.given + walkGives frontId it sl } : WorkItem).slotless = 0 := by
        rw [left]; omega
      have none : ∀ sl', walkGives frontId { it with given := it.given + walkGives frontId it sl } sl' = 0 :=
        fun sl' => Nat.le_zero.1 (zero ▸ Nat.min_le_left _ _)
      simp [walkItems, none, zero, ih]

theorem State.walk_of_cons (s : State) (front : WorkItem) (rest : List WorkItem) (h : s.queue = front :: rest) :
    s.walk = ((s.setQueue (walkItems front.id (front :: rest) s.slots).1).setSlots
      (walkItems front.id (front :: rest) s.slots).2.1).produceAll
        (walkItems front.id (front :: rest) s.slots).2.2 := by
  simp [State.walk, h]

/-- A second walk changes nothing. -/
theorem State.walk_walk (s : State) : s.walk.walk = s.walk := by
  rcases hq : s.queue with _ | ⟨front, rest⟩
  · simp [State.walk, hq]
  · have first : ∃ g more, (walkItems front.id (front :: rest) s.slots).1 =
        { front with given := g } :: more := by
      simp only [walkItems]
      split <;> exact ⟨_, _, rfl⟩
    obtain ⟨g, more, hf⟩ := first
    have again := walkItems_walkItems front.id (front :: rest) s.slots
    simp only at again
    have e := s.walk_of_cons front rest hq
    have q' : s.walk.queue = { front with given := g } :: more := by rw [e, ← hf]; rfl
    have sl' : s.walk.slots = (walkItems front.id (front :: rest) s.slots).2.1 := by rw [e]; rfl
    rw [hf, ← sl'] at again
    rw [s.walk.walk_of_cons _ _ q', again, ← q']
    simp only [State.produceAll, List.append_nil]
    rfl

/-! ### Forming a run -/

/-- The conditions of a pass in the words of the statements (R103, R105, R106). -/
theorem State.meetBias_eq (s : State) : s.meetBias = passAwaited s := by
  unfold State.meetBias passAwaited State.meetSpeed State.hold State.mapHead
  cases s.passBias <;> rfl

/-- A run that is begun, in the words of the statements (R98 to R101). -/
theorem State.startRun_eq (r : Run) (pass : PassKind) (later : List PassKind) (s : State) :
    s.startRun r (pass, later) = runBegun r pass later s := by
  unfold State.startRun runBegun State.goToTrack State.commandSeek State.mapHead State.act
  simp only [State.setHead_head]
  split
  · simp [State.meetBias_eq, *]
  · simp only [State.meetBias_eq, if_neg ‹_›]
    rfl

/-- The blocks that join a run: each is ready, not listed, next in q and on the track, and the first that does not
join is not (R99, R100). -/
theorem State.extendRun_spec (s : State) (it : WorkItem) (st : Option SlotState) (track m : Nat) :
    ∀ (q k : Nat), let ts := s.extendRun it st track q (List.range' k m)
      let ready := fun k => st = none ∨ st = some (slotState it.id k s.slots)
      ts.length ≤ m ∧
      (∀ j < ts.length, ∃ x, s.itemPlace it (k + j) = some x ∧ x.track = track ∧
        ts[j]? = some ⟨x.sector, k + j, .toAct, false, 0⟩ ∧ x.q = q + 1 + j ∧ x.listed = false ∧
        ready (k + j)) ∧
      (ts.length < m → ready (k + ts.length) → ∀ x, s.itemPlace it (k + ts.length) = some x →
        x.listed = false → x.q = q + 1 + ts.length → x.track ≠ track) := by
  induction m with
  | zero => intro q k; simp [State.extendRun]
  | succ m ih =>
    intro q k
    simp only [List.range'_succ, State.extendRun]
    split
    · rename_i hr
      split
      · rename_i hp
        exact ⟨by simp, by simp, fun _ _ x hx => by simp [hp] at hx⟩
      · rename_i p hp
        split
        · rename_i hc
          obtain ⟨l, each, stop⟩ := ih p.q (k + 1)
          refine ⟨by simpa using l, ?_, ?_⟩
          · intro j hj
            cases j with
            | zero => exact ⟨p, hp, hc.2.2, rfl, hc.2.1, hc.1, hr⟩
            | succ j =>
              obtain ⟨x, h1, h2, h3, h4, h5, h6⟩ := each j (by simpa using hj)
              have e : k + (j + 1) = k + 1 + j := by omega
              rw [e]
              exact ⟨x, h1, h2, by simpa using h3, by omega, h5, h6⟩
          · intro hl hr' x hx h1 h2
            simp only [List.length_cons] at hl hr' hx h2
            rw [show k + ((s.extendRun it st track p.q (List.range' (k + 1) m)).length + 1) =
              k + 1 + (s.extendRun it st track p.q (List.range' (k + 1) m)).length by omega] at hr' hx
            exact stop (by omega) hr' x hx h1 (by omega)
        · rename_i hc
          refine ⟨by simp, by simp, fun _ _ x hx h1 h2 h3 => hc ?_⟩
          have : x = p := by simpa [hp] using hx.symm
          subst this
          exact ⟨h1, by simpa using h2, h3⟩
    · rename_i hr
      exact ⟨by simp, by simp, fun _ h => absurd (by simpa using h) hr⟩

/-- A run of the item's next block is begun (R99, R100). -/
theorem State.startBlocks_formed (s : State) (it : WorkItem) (st : Option SlotState) (pass : PassKind)
    (later : List PassKind) (hb : it.blocksDone < it.count)
    (hp : (s.itemPlace it it.blocksDone).isSome = true) :
    ∃ r, RunFormed s it (fun k => st = none ∨ st = some (slotState it.id k s.slots)) r ∧
      s.startBlocks it st (pass, later) = runBegun r pass later s := by
  obtain ⟨p, hp⟩ := Option.isSome_iff_exists.1 hp
  simp only [State.startBlocks, hp]
  refine ⟨_, ?_, State.startRun_eq _ _ _ _⟩
  obtain ⟨l, each, stop⟩ :=
    s.extendRun_spec it st p.track (it.count - (it.blocksDone + 1)) p.q (it.blocksDone + 1)
  by_cases listed : p.listed = true
  · simp only [listed, if_true]
    refine ⟨p, 1, hp, by omega, by omega, rfl, rfl, rfl, ?_, fun _ _ h => by simp [listed] at h⟩
    intro j hj
    obtain rfl : j = 0 := by omega
    exact ⟨p, hp, rfl, rfl, by omega, by omega⟩
  · have listed : p.listed = false := by simpa using listed
    simp only [listed, Bool.false_eq_true, if_false]
    refine ⟨p, _ + 1, hp, by omega, ?_, rfl, rfl, rfl, ?_, ?_⟩
    · omega
    · intro j hj
      cases j with
      | zero => exact ⟨p, hp, rfl, rfl, fun _ => ⟨rfl, listed⟩, by omega⟩
      | succ j =>
        obtain ⟨x, h1, h2, h3, h4, h5, h6⟩ := each j (by omega)
        rw [show it.blocksDone + (j + 1) = it.blocksDone + 1 + j by omega]
        exact ⟨x, h1, h2, by simpa using h3, fun _ => ⟨by omega, h5⟩, fun _ => h6⟩
    · intro hn hr _ x hx h1 h2
      rw [show ∀ n, it.blocksDone + (n + 1) = it.blocksDone + 1 + n by omega] at hr hx
      exact stop (by omega) hr x hx h1 (by omega)

/-- Beginning a run changes the head and the actions at the port alone. -/
theorem runBegun_back (r : Run) (pass : PassKind) (later : List PassKind) (s : State) :
    ((runBegun r pass later s).setHead s.head).setPort s.port = s := by
  unfold runBegun passAwaited
  dsimp only
  split
  · split
    · split <;> rfl
    · split
      · split <;> rfl
      · rfl
  · rfl

/-- A block's place is read off the facts, the extent table and the list (R24). -/
theorem State.itemPlace_congr {s t : State} (d : t.drive = s.drive) (e : t.extents = s.extents)
    (l : t.list = s.list) (it : WorkItem) (k : Nat) : t.itemPlace it k = s.itemPlace it k := by
  simp only [State.itemPlace, State.itemPsa, State.entry, d, e, l]

/-! ### The close of an event and the end of an item -/

/-- A state that differs from `s` in the head's work alone. -/
theorem State.back_of_same {s t : State} (same : SameOutside { head := true, port := true } s t) :
    ((t.setHead s.head).setDataTimer s.dataTimer).setPort s.port = s := by
  cases s; cases t
  simp_all [SameOutside, State.setHead, State.setDataTimer, State.setPort]

/-- What the walk with the FETCH that may go on after it can do. -/
theorem State.walk_resume_walked (s : State) : Walked s s.walk.resumeFetch := by
  have ws := s.walk_same
  unfold SameOutside at ws
  have head : s.walk.head = s.head := (ws.2.2.2.2.2.2.1 rfl).1
  refine ⟨?_, ?_, fun h => by simp [State.resumeFetch, h], ?_⟩
  · have := State.back_of_same (State.resumeFetch_same s.walk)
    rwa [head, (ws.2.2.2.2.2.2.1 rfl).2, ws.2.2.2.2.2.2.2.2.2.2.2.2.2.1 rfl] at this
  · exact fun h => State.resumeFetch_of_not_waiting _ (by rwa [head])
  · intro it rest waiting hq
    refine ⟨fun h => by simp [State.resumeFetch, hq, h], fun reading fetch facts hb hp => ?_⟩
    have d : s.walk.drive = s.drive := ws.1 rfl
    have place := State.itemPlace_congr d (ws.2.2.1 rfl) (ws.2.2.2.2.1 rfl) it it.blocksDone
    obtain ⟨f, hf⟩ := Option.isSome_iff_exists.1 facts
    obtain ⟨r, formed, begun⟩ := s.walk.startBlocks_formed it (some .reading) .read [] hb (by rwa [place])
    refine ⟨r, by simpa [eq_comm] using formed, ?_⟩
    rw [← begun]
    simp [State.resumeFetch, State.formRun, hq, head, waiting, reading, fetch, d, hf]

/-- What `settle` can do. -/
theorem State.settle_settled (s : State) : Settled s s.settle := by
  unfold Settled State.settle
  rw [State.placeAllPending_eq]
  exact State.walk_resume_walked _

/-- What follows a walk leaves of the items and the slots in use: no count but `given` has changed, no slot in use,
and CREDITs alone have been sent (R121, R123). -/
theorem walked_keeps {s t : State} (h : Walked s t) :
    t.queue.map bareItem = s.queue.map bareItem ∧
      (∃ credits, CreditsOnly credits ∧ t.outbound = s.outbound ++ credits) ∧
      (∀ (i : Nat) (x : Slot), s.slots[i]? = some x → x.state ≠ .free → t.slots[i]? = some x) ∧
      SameOutside walking s t := by
  have back := h.1
  have q : t.queue = s.walk.queue := by rw [← back]; rfl
  have o : t.outbound = s.walk.outbound := by rw [← back]; rfl
  have sl : t.slots = s.walk.slots := by rw [← back]; rfl
  rw [q, o, sl]
  have ws := s.walk_same
  rw [← back] at ws
  refine ⟨s.walk_spec.1, s.walk_spec.2.1, s.walk_spec.2.2, ?_⟩
  simp [SameOutside, walking] at ws ⊢
  tauto

/-- After an event has closed, no place is due. -/
theorem State.placesGiven_settle (s : State) : placesGiven s.settle = [] := by
  have rs := State.resumeFetch_same s.placeAllPending.walk
  have ws := s.placeAllPending.walk_same
  unfold SameOutside at rs ws
  rw [← s.placesGiven_placeAllPending]
  refine placesGiven_congr ?_ ?_ <;> unfold State.settle
  · rw [rs.2.2.2.2.2.2.2.2.2.1 rfl, ws.2.2.2.2.2.2.2.2.2.1 rfl]
  · rw [(rs.2.2.2.2.2.1 rfl).1]
    simpa using congrArg List.length s.placeAllPending.walk_spec.1

/-- Closing an event twice is closing it: an end of an item inside the end of a pass closes it already, with a head
that waits for no slot. -/
theorem State.settle_settle (s : State) (h : s.head.activity ≠ .waitingSlot) :
    s.settle.settle = s.settle := by
  have one := s.settle_of_not_waiting h
  rw [State.settle_of_not_waiting s.settle (by rw [one, State.walk_head, State.placeAllPending_head]; exact h),
    State.placeAllPending_eq, placesTaken_none _ s.placesGiven_settle, one, State.walk_walk]

/-- So an event that is closed twice has settled. -/
theorem State.settle_settle_settled (s : State) (h : s.head.activity ≠ .waitingSlot) :
    Settled s s.settle.settle := by
  rw [s.settle_settle h]
  exact s.settle_settled

theorem State.clearHead_eq_idle (s : State) : s.clearHead = idle s := rfl

theorem State.cutHead_eq_cut (s : State) : s.cutHead = cut s := rfl

/-- The end of an item before its event closes. -/
theorem State.finishItem_eq_ended (it : WorkItem) (o : ItemOutcome) (c : WriteCause) (s : State) :
    s.finishItem false it o c = ended o c it s := by
  unfold State.finishItem ended
  cases it.route <;> rfl

/-- The end of the item in service by a rule of the head (R87, R113). -/
theorem State.endItem_headEnds (it : WorkItem) (rest : List WorkItem) (o : ItemOutcome) (c : WriteCause)
    (s : State) (hq : s.queue = it :: rest) : HeadEnds o c it s (s.endItem o c) := by
  have hq' : (idle s).queue = it :: rest := hq
  constructor
  · intro hk hs
    simp [State.endItem, State.clearHead_eq_idle, hq, hq', hk, hs]
  · intro h
    have hn : ¬ (it.kind = .fetch ∧ it.sent < it.blocksDone) := fun ⟨hk, hs⟩ => by
      have := h hk
      omega
    have : s.endItem o c = ((idle s).finishItem false it o c).settle := by
      simp [State.endItem, State.clearHead_eq_idle, hq', hn]
    rw [ItemEnds, this, State.finishItem_eq_ended]
    exact State.settle_settled _

/-- The cut of the head's work from outside (R114). -/
theorem State.cutFor_eq (it : WorkItem) (s : State) :
    (if it.state = .inService then s.cutItem else s) = cutFor it s := by
  unfold cutFor State.cutItem
  by_cases h : it.state = .inService
  · simp only [h, if_true, ne_eq, not_true, if_false]
    rfl
  · simp [h]

/-- The end of an item by the Sector Buffer (R125, R127). -/
theorem State.endFromOutside_ends (it : WorkItem) (o : ItemOutcome) (s : State) :
    EndsFromOutside o it s (s.endFromOutside it o) := by
  have : s.endFromOutside it o = (ended o .none it (cutFor it s)).settle := by
    unfold State.endFromOutside
    rw [State.cutFor_eq, State.finishItem_eq_ended]
  rw [EndsFromOutside, this]
  exact State.settle_settled _

/-- A lane's WAITING items leave the queue (R92). -/
theorem State.removeWaiting_eq (s : State) (n : Nat) (h : n < 4) :
    s.removeWaiting n = withoutWaiting (fun m => m == n) s := by
  have one : (fun it : WorkItem => (List.range 4).any fun m => m == n && it.isWaitingOf m) =
      WorkItem.isWaitingOf n := by
    funext it
    apply Bool.eq_iff_iff.mpr
    simp only [List.any_eq_true, List.mem_range, Bool.and_eq_true, beq_iff_eq]
    exact ⟨fun ⟨m, _, hm, hw⟩ => hm ▸ hw, fun hw => ⟨n, h, rfl, hw⟩⟩
  have not : (fun it : WorkItem => !((List.range 4).any fun m => m == n && it.isWaitingOf m)) =
      fun it => !it.isWaitingOf n := funext fun it => congrArg (!·) (congrFun one it)
  unfold State.removeWaiting withoutWaiting
  simp only [not, one]

/-- A halt with its notice (R148). -/
theorem State.haltLane_eq (s : State) (n : Nat) (c : HaltCause) (h : n < 4) (l : s.lanes.length = 4) :
    s.haltLane true n c = laneHalts n (s.lane n) c s := by
  have halted : ∀ x : Lane, ((withoutWaiting (fun m => m == n) s).setLane n x).lane n = x := fun x => by
    rw [State.lane_setLane]
    exact if_pos ⟨rfl, (by rw [l]; exact h : n < s.lanes.length)⟩
  unfold State.haltLane State.haltSilently laneHalts
  simp only [if_true, s.removeWaiting_eq n h, State.notify, State.produce, reports, halted]
  rfl

end Sys2Proof.Machine
end

