-- ==== Sys2Proof/Tests/Slice0.lean ====
section
/-! SUPPORT. Tests: the ill-formed terms that each check refuses, one step of each command on a small state with
the result the manual's rules and worked examples give, and for each obligation with hypotheses a concrete state
that meets them. -/

namespace Sys2Proof.Tests

-- one theorem after another: many kernel evaluations at once exhaust the threads of a small machine
set_option Elab.async false

open Sys2Proof.Machine Sys2Proof.Safety

/-! ### States -/

/-- The state a command leads to. -/
def after (i : Instr) (s : State) : State :=
  match exec i s with
  | .next t => t
  | .fault f => nomatch f
  | .refused _ => s

/-- A READY drive with the worked geometry of chapter 1. -/
def readyDrive : Drive :=
  { Drive.reset with
    state := .ready, spindle := true, tab := some false, period := some 16667, tracking := true
    speed := .inSpeed, good := 2
    facts := some ⟨.e, [⟨4, 6000, 40⟩, ⟨6004, 5000, 34⟩, ⟨11004, 4000, 27⟩], 518000, 516000, 2000⟩ }

/-- A valid ascending entry without attributes. -/
def entry (base limit : Nat) : Extent :=
  { Extent.blank with v := true, base := BitVec.ofNat 13 base, limit := BitVec.ofNat 10 limit }

/-- The mounted side of the worked resolution (chapter 2) with the entries of chapters 3 and 8 and the list
that chapter 4 leaves. -/
def worked : State :=
  { State.reset with
    drive := readyDrive
    list := ⟨true, [⟨12040, 0⟩, ⟨259600, 6⟩, ⟨259603, 10⟩, ⟨301117, 2⟩], 11, true, false⟩
    extents := ((((State.reset.extents.set 5 { entry 3900 255 with wa := true }).set 7
      (entry 1000 31)).set 9 { entry 7000 99 with ds := true, wa := true }).set 12
      (entry 8000 200)).set 14 { entry 100 63 with ro := true }
    descriptors := ((State.reset.descriptors.set 3 ⟨.band, 9, 59150, 16, 32, 3, 255, 0⟩).set 4
      ⟨.band, 7, 0, 8, 40, 3, 5, 1⟩).set 5 ⟨.ring, 7, 200, 4, 4, 2, 255, 1⟩ }

/-- A work item that has just been taken in, with its verify snapshot ON. -/
def item (id : Nat) (route : Route) (kind : ItemKind) (extent first count : Nat) : WorkItem :=
  { id := id, route := route, kind := kind, extent := some extent, first := some first, count := count,
    blocksDone := 0, corrected := 0, replacements := 0, snapshot := true, state := .waiting, given := 0,
    sent := 0, frameBase := 0, ended := none }

/-- Slots 0, 1, … in the states given, held by item `id` for its blocks from `k` on; the others FREE. -/
def slotsFrom (id k : Nat) (states : List SlotState) : List Slot :=
  (states.zipIdx k).map (fun p => ⟨p.1, some id, p.2, p.2, []⟩) ++
    List.replicate (32 - states.length) Slot.blank

/-- Lane `n` ACTIVE on descriptor `g`, at its beginning. -/
def running (n g : Nat) (s : State) : State :=
  let d := s.descriptorAt g
  s.setLanes (s.lanes.set n
    { Lane.reset with
      state := .active, descriptor := g, offset := d.start.toNat, remaining := d.count.toNat
      cls := .service })

/-- The head at work on the item as the front item, with the activity, pass and run given. -/
def serving (it : WorkItem) (act : Activity) (pass : PassKind) (r : Option Run) (s : State) : State :=
  { s with
    queue := { it with state := .inService } :: s.queue.tail
    nextId := it.id + 1
    head := { Head.reset with
      task := .item, activity := act, pass := pass, run := r, track := r.map Run.track, bias := .write } }

/-- The run of tag 70 in the worked sequence of chapter 6: blocks 0 to 4 at track 6581, sectors 0 to 4, with
the stages given. -/
def runA (stages : List Stage) : Run :=
  ⟨6581, stages.zipIdx.map fun p => ⟨p.2, p.2, p.1, decide (p.1 ≠ .toAct), 0⟩, .blocks⟩

/-- Tag 70 of that sequence. -/
def tag70 : WorkItem := { item 0 (.tag 70) .place 5 10018 5 with given := 5 }

/-- Tag 70 at the head, in the pass and the stages given; all five slots in the state given. -/
def atTag70 (act : Activity) (pass : PassKind) (stages : List Stage) (st : SlotState) : State :=
  (serving tag70 act pass (some (runA stages)) worked).setSlots (slotsFrom 0 0 [st, st, st, st, st])

/-! ### Well-formedness: each check refuses an ill-formed term -/

theorem test_parameters_too_long :
    WellFormed (.fetch 0 0 (List.replicate 1037 0)) = false ∧
      WellFormed (.fetch 0 0 (List.replicate 1036 0)) = true := by decide +kernel

theorem test_unknown_order_must_be_unknown :
    WellFormed (.unknownOrder 0x61 0 0 []) = false ∧ WellFormed (.unknownOrder 0x63 0 0 []) = true ∧
      WellFormed (.unknownOrder 0x63 0 0 (List.replicate 1037 0)) = false := by decide +kernel

/-- A frame with a right CRC and a known kind is no bad frame; one without start or end byte neither. -/
theorem test_bad_frame_must_be_discarded :
    WellFormed (.badFrame (wireOf [0x01, 0x50, 0, 1])) = false ∧
      WellFormed (.badFrame [0xA5, 0x01, 0x02]) = false ∧ WellFormed (.badFrame [0x5A]) = false ∧
      WellFormed (.badFrame [0xA5, 0x01, 0x50, 0x5A]) = true ∧
      WellFormed (.badFrame (wireOf [0x03, 0x50, 0, 1])) = true := by decide +kernel

theorem test_abort_must_discard :
    WellFormed (.abort [0xA5, 0x01, 0x5A]) = false ∧ WellFormed (.abort [0xA5, 0x01]) = false ∧
      WellFormed (.abort [0x3C, 0x5A]) = false ∧ WellFormed (.abort [0xA5, 0x3C, 0x5A]) = true := by
  decide +kernel

theorem test_data_frame_route_and_length :
    WellFormed (.dataFrame (.lane 256) 0 (List.replicate 1024 0)) = false ∧
      WellFormed (.dataFrame (.lane 255) 0 (List.replicate 1024 0)) = true ∧
      WellFormed (.dataFrame (.tag 0) 0 (List.replicate 1023 0)) = false := by decide +kernel

theorem test_sector_numbers :
    WellFormed (.sectorIdArrival 65536 0 false) = false ∧
      WellFormed (.sectorIdArrival 4 40 false) = false ∧
      WellFormed (.verifyCompareResult 4 40 true) = false ∧
      WellFormed (.verifyCompareResult 65535 39 true) = true := by decide +kernel

theorem test_read_result :
    WellFormed (.readDataEvent 4 40 .uncorrectable) = false ∧
      WellFormed (.readDataEvent 4 0 (.delivered (List.replicate 1024 0) 17)) = false ∧
      WellFormed (.readDataEvent 4 0 (.delivered [] 16)) = false ∧
      WellFormed (.readDataEvent 4 0 (.delivered (List.replicate 1024 0) 16)) = true := by decide +kernel

theorem test_index_and_lane_numbers :
    WellFormed (.indexArrival 65535) = false ∧ WellFormed (.indexArrival 65534) = true ∧
      WellFormed (.lanePost 4) = false ∧ WellFormed (.lanePost 3) = true := by decide +kernel

/-! ### Frames -/

/-- The worked frame of chapter 10: tag 3Ch is escaped, and the frame is read back as its PLACE order. -/
theorem test_worked_frame :
    (wireOf [0x01, 0x02, 0x00, 0x3C, 0x05, 0x27, 0x10, 0x00, 0x04]).take 7 =
        [0xA5, 0x01, 0x02, 0x00, 0x3C, 0x1C, 0x05] ∧
      (Receiver.bytes Receiver.hunting
        (wireOf [0x01, 0x02, 0x00, 0x3C, 0x05, 0x27, 0x10, 0x00, 0x04])).2.map frameOf =
        [some (.place 0x00 0x3C [0x05, 0x27, 0x10, 0x00, 0x04])] := by decide +kernel

/-- The check value of R6 over the nine bytes 31h to 39h, the published check of this polynomial, initial
value and bit order: 29B1h. -/
theorem test_crc : crc16 [0x31, 0x32, 0x33, 0x34, 0x35, 0x36, 0x37, 0x38, 0x39] = 0x29B1#16 := by
  decide +kernel

/-- Contents written out from R170 and R172: an order of each group, and the header of a data frame. -/
theorem test_contents :
    decodeContent [0x01, 0x11, 0x01, 0x32, 0x00, 0x04] = some (.startLane 1 0x32 [0, 4]) ∧
      decodeContent [0x01, 0x31, 0x00, 0x09, 0x00, 0x02, 0x40] =
        some (.showList 0 9 [0, 2, 0x40]) ∧
      decodeContent [0x01, 0x62, 0x01, 0x5C] = some (.restart 1 0x5C []) ∧
      decodeContent [0x01, 0x63, 0x01, 0x5C] = some (.unknownOrder 0x63 1 0x5C []) ∧
      decodeContent ([0x02, 0x01, 0x02, 0x01, 0x10] ++ List.replicate 1024 0) =
        some (.dataFrame (.lane 2) 0x0110 (List.replicate 1024 0)) ∧
      decodeContent [0x01, 0x62, 0x01] = none ∧ decodeContent [0x02, 0x01, 0x02] = none := by decide +kernel

/-- spec/opcode_table.json gives no bits. -/
theorem test_table_words : decodeTableWord 16 0 = none := rfl

/-! ### One step of each command -/

/-- Chapter 3, step 4: the captured offset of a FETCH past the end of extent 5. -/
theorem test_fetch_range :
    (after (.fetch 0 40 [5, 0x3F, 0xFC, 0, 10]) worked).fault =
      ⟨⟨false, true, false, false, false, false⟩, false, false, false,
        some ⟨5, 16384, .tag 40, .fetch, .ordinary⟩⟩ := by decide +kernel

/-- Chapter 2: FETCH extent 12, o = 3,999, n = 2 reaches U. -/
theorem test_fetch_beyond_media :
    (after (.fetch 0 40 [12, 0x0F, 0x9F, 0, 2]) worked).outbound =
      [.answer 0x01 40 .beyondMedia .none] := by decide +kernel

/-- Chapter 10's PLACE is accepted and credited. -/
theorem test_place_credit :
    (after (.place 0 0x3C [5, 0x27, 0x10, 0, 4]) worked).outbound = [.credit (.tag 0x3C) 4] := by decide +kernel

/-- Chapter 2: PLACE extent 5, o = 16,300, n = 84 raises one edge event, captured at offset 16,320. -/
theorem test_place_edge :
    (after (.place 1 9 [5, 0x3F, 0xAC, 0, 84]) worked).fault =
      ⟨CauseSet.empty, true, false, false, some ⟨5, 16320, .tag 9, .place, .service⟩⟩ := by decide +kernel

/-- Chapter 2: an entry with V = 0 gives ABSENT alone. -/
theorem test_blank_absent :
    (after (.blank 0 9 [20, 0, 0, 0, 1]) worked).outbound.getLast? =
      some (.answer 0x03 9 .violation (.causes ⟨true, false, false, false, false, false⟩)) := by decide +kernel

theorem test_store_needs_service_class :
    (after (.storeExtents 0 9 []) worked).outbound = [.answer 0x23 9 .cls .none] := by decide +kernel

theorem test_flush_becomes_an_item :
    (after (.flushList 1 9 []) worked).queue.map (fun it => (it.route, it.kind, it.extent, it.count)) =
      [(.tag 9, .flush, none, 1)] := by decide +kernel

theorem test_unload_in_empty :
    (after (.unload 0 9 []) State.reset).outbound = [.answer 0x10 9 .noMedia .none] := by decide +kernel

/-- Chapter 8, event 1: lane 0 starts on descriptor 4 at offset 0, remaining 3, next block index 0. -/
theorem test_start_lane :
    (after (.startLane 1 50 [0, 4]) worked).lane 0 =
      ⟨.active, 4, 0, 3, 0, 0, none, .service, none, []⟩ := by decide +kernel

theorem test_start_lane_numbers :
    (after (.startLane 1 50 [4, 4]) worked).outbound = [.answer 0x11 50 .badCount .none] := by decide +kernel

theorem test_stop_lane_idle :
    (after (.stopLane 0 7 [3]) worked).outbound = [.answer 0x12 7 .ok (.stopped 3 0 0)] := by decide +kernel

/-- Chapter 2's example: entries 4, 5, 6 with a PLACE item naming extent 5. -/
theorem test_load_extents_in_use :
    (after (.loadExtents 1 7 ([4, 3] ++ List.replicate 24 0xFF))
      { worked with queue := [item 0 (.tag 1) .place 5 0 1] }).outbound =
      [.answer 0x20 7 .inUse (.count 1)] := by decide +kernel

/-- R172's entry layout: V, B 3900, L 255, SV and WA, CH. -/
theorem test_load_extents_fields :
    (after (.loadExtents 1 7 [47, 1, 0xFF, 0xEF, 0x3C, 0xFC, 0xFF, 0x22, 0xFE, 0xAA])
      State.reset).extents.getD 47 Extent.blank =
      ⟨true, 3900, 255, false, true, false, false, false, true, false, true⟩ := by decide +kernel

/-- Chapter 2's example: after a hardware reset all 48 entries have every field 0. -/
theorem test_show_extents_after_reset :
    (after (.showExtents 0 7 [0, 48]) State.reset).outbound =
      [.answer 0x21 7 .ok (.extents 0 48 (List.replicate 48 Extent.blank))] := by decide +kernel

theorem test_mark_all_answers_the_valid_entries :
    (after (.markAll 1 7 [0xFE]) worked).outbound = [.answer 0x22 7 .ok (.count 5)] := by decide +kernel

/-- Chapter 4's example: i = 2 and k = 64 give the last two of four entries. -/
theorem test_show_list :
    (after (.showList 0 7 [0, 2, 64])
      (worked.setList ⟨true, [⟨12040, 0⟩, ⟨259600, 6⟩, ⟨259603, 7⟩, ⟨301117, 2⟩], 8, false,
        false⟩)).outbound =
      [.answer 0x31 7 .ok (.list 4 8 2000 516000 false [⟨259603, 7⟩, ⟨301117, 2⟩])] := by decide +kernel

/-- Chapter 8's descriptor 5 as R170 lays it out. -/
theorem test_load_descriptors :
    (after (.loadDescriptors 1 7 [31, 1, 3, 7, 0, 200, 0, 4, 0, 4, 0, 2, 0xFF, 1])
      State.reset).descriptors.getD 31 Descriptor.blank = ⟨.ring, 7, 200, 4, 4, 2, 255, 1⟩ := by decide +kernel

theorem test_show_descriptors_range :
    (after (.showDescriptors 0 7 [1, 32]) worked).outbound = [.answer 0x41 7 .badCount .none] := by decide +kernel

theorem test_show_fault :
    (after (.showFault 0 7 []) worked).outbound = [.answer 0x50 7 .ok (.fault FaultRecord.empty)] := by
  decide +kernel

theorem test_clear_fault :
    (after (.clearFault 1 7 []) (worked.setFault ⟨CauseSet.onlyAbsent, true, false, true,
      some ⟨20, 0, .tag 17, .place, .ordinary⟩⟩)).fault = FaultRecord.empty := by decide +kernel

/-- Chapter 11, event 1: bytes 00h, 02h, 01h. -/
theorem test_set_profile :
    (after (.setProfile 1 91 [0x00, 0x02, 0x01]) worked).outbound =
        [.answer 0x60 91 .ok (.profile ⟨.link, false, .immediate⟩)] ∧
      (after (.setProfile 1 91 [0x00, 0x02, 0x01]) worked).list.request = true := by decide +kernel

theorem test_show_state :
    (after (.showState 0 7 []) worked).outbound = [.answer 0x61 7 .ok (.state worked.snapshot)] ∧
      (worked.snapshot.free, worked.snapshot.listCount, worked.snapshot.users) = (32, 4, 516000) := by
  decide +kernel

theorem test_restart_keeps_the_position :
    (after (.restart 1 92 []) (running 1 3 worked)).lane 1 =
      ⟨.idle, 3, 59150, 3, 0, 0, none, .service, none, []⟩ := by decide +kernel

theorem test_unknown_order :
    (after (.unknownOrder 0x63 0 7 [1, 2]) worked).outbound =
      [.answer 0x63 7 .unknownOrder .none] := by decide +kernel

theorem test_bad_frame :
    (after (.badFrame [0xA5, 0x01, 0x50, 0x5A]) (worked.setReceiver ⟨.escaped, [1]⟩)).receiver =
      ⟨.hunting, []⟩ := by decide +kernel

theorem test_abort :
    (after (.abort [0xA5, 0x3C, 0x5A]) worked).outbound = [] ∧
      (after (.abort [0xA5, 0x3C, 0x5A]) worked).receiver = ⟨.hunting, []⟩ := by decide +kernel

/-- A data frame fills the lowest AWAITING slot of its item. -/
theorem test_data_frame :
    ((after (.dataFrame (.tag 1) 0 (List.replicate 1024 7))
      { worked with
        queue := [{ item 0 (.tag 1) .place 5 0 2 with given := 2 }]
        slots := slotsFrom 0 0 [.awaiting, .awaiting] }).slots.take 3).map Slot.state =
      [.full, .awaiting, .free] := by decide +kernel

theorem test_data_frame_stray :
    (after (.dataFrame (.lane 9) 3 (List.replicate 1024 7)) worked).outbound =
      [.notice (.stray (.lane 9) 3)] := by decide +kernel

theorem test_send_block :
    ((after .sendBlock ({ worked with
      queue := [{ item 0 (.tag 1) .fetch 5 0 2 with given := 2, blocksDone := 2 }]
      slots := slotsFrom 0 0 [.ready, .ready] })).slots.take 2).map Slot.state =
      [.sending, .ready] := by decide +kernel

/-- The last counted block of an ended FETCH: its data frame, then its DONE (R87). -/
theorem test_data_frame_produced :
    (after .dataFrameProduced ({ worked with
      queue := [{ item 0 (.tag 1) .fetch 5 0 1 with
        given := 1, blocksDone := 1, state := .delivering, ended := some (.ok, .none) }]
      slots := slotsFrom 0 0 [.sending] })).outbound =
      [.data 1 0 [], .done 1 .ok .none 1 0 0] := by decide +kernel

/-- A slot that sending frees goes to the block that the head waits for, and its run is formed (R100, R121). -/
theorem test_freed_slot_starts_the_run :
    let fetch : WorkItem := { item 0 (.tag 1) .fetch 5 10018 33 with given := 32, blocksDone := 32 }
    let t := after .dataFrameProduced ((serving fetch .waitingSlot .read none worked).setSlots
      (slotsFrom 0 0 (.sending :: List.replicate 31 .ready)))
    t.port = [.seek 6581] ∧ t.head.targets.map Target.sector = [32] ∧
      (t.slots.take 2).map Slot.state = [.reading, .ready] := by decide +kernel

/-- A CREDIT for tag 3Ch leaves with its tag byte escaped (R163, R172). -/
theorem test_frame_sent :
    (after .frameSent (worked.setOutbound [.credit (.tag 0x3C) 4])).line.take 6 =
      [0xA5, 0x83, 0x00, 0x3C, 0x1C, 0x04] := by decide +kernel

/-- Chapter 6: sector 11 begins the erase pass and is passed over. -/
theorem test_sector_begins_the_pass :
    let t := after (.sectorIdArrival 6581 11 false)
      (atTag70 .awaitingStart .read [.toAct, .toAct, .toAct, .toAct, .toAct] .full)
    t.head.activity = .inPass ∧ t.port = [] := by decide +kernel

set_option maxRecDepth 20000 in
/-- R103: a pass that one arrival begins may end with it. The write pass of a STORE records the table as it stands then
(R35), in its one sector, and its verify pass is next. -/
theorem test_one_sector_write_pass :
    let store : Run := ⟨2, [⟨0, 0, .toAct, false, 0⟩], .store⟩
    let s := serving { item 0 (.tag 1) .store 0 0 1 with extent := none } .awaitingStart .write (some store) worked
    let t := after (.sectorIdArrival 2 0 false) (s.setHead { s.head with later := [.verify] })
    t.port = [.write 2 0 ((extentImage worked.extents).getD 0 [])] ∧ t.head.pass = .verify ∧
      t.head.activity = .awaitingStart := by decide +kernel

/-- Chapter 9: a period of 17,000 µs is the last one inside the window. -/
theorem test_index_window :
    (after (.indexArrival 17000) worked).drive.speed = .inSpeed ∧
      (after (.indexArrival 17001) worked).outbound = [.notice (.speedLost (some 17001))] := by decide +kernel

/-- The third uncorrectable attempt ends the item READ_FAILED (R112). -/
theorem test_third_read_attempt :
    (after (.readDataEvent 6581 0 .uncorrectable)
      (serving (item 0 (.tag 1) .fetch 5 10018 1) .inPass .read
        (some ⟨6581, [⟨0, 0, .awaiting, true, 2⟩], .blocks⟩) worked)).outbound =
      [.done 1 .readFailed .none 0 0 0] := by decide +kernel

/-- Chapter 6: results match, match, fail, match, match. The entry (259,620, 11) is inserted, and block 2 goes
to track 14,930. -/
theorem test_verify_failure :
    let t := after (.verifyCompareResult 6581 4 true)
      (atTag70 .inPass .verify [.good, .good, .bad, .good, .awaiting] .written)
    t.list.entries = [⟨12040, 0⟩, ⟨259600, 6⟩, ⟨259603, 10⟩, ⟨259620, 11⟩, ⟨301117, 2⟩] ∧
      t.list.next = 12 ∧ t.port = [.seek 14930] ∧
      t.queue.map (fun it => (it.blocksDone, it.replacements)) = [(2, 1)] ∧
      (t.slots.take 5).map Slot.state = [.free, .free, .written, .written, .written] := by decide +kernel

/-- Chapter 6: on the run's track the erase pass switches the bias from WRITE to ERASE. -/
theorem test_seek_complete :
    let t := after .seekComplete (atTag70 .seeking .erase [.toAct] .full)
    t.head.activity = .biasing ∧ t.head.bias = .switching ∧ t.port = [.switchBias .erase] := by decide +kernel

theorem test_bias_ready :
    let s := atTag70 .biasing .erase [.toAct] .full
    let t := after .biasReady (s.setHead { s.head with bias := .switching })
    t.head.activity = .awaitingStart ∧ t.head.bias = .erase := by decide +kernel

theorem test_insertion :
    (after (.insertion true) State.reset).drive.tab = some true ∧
      (after (.insertion true) State.reset).port = [.spindleOn] := by decide +kernel

theorem test_eject_button_halts_lanes :
    (after .ejectButton (running 1 3 worked)).outbound =
      [.notice (.laneHalted 1 3 .unload 0)] := by decide +kernel

/-- A loss with a loaded, dirty list (R158): LIST_LOST, then MEDIA_GONE. -/
theorem test_cartridge_lost :
    (after .cartridgeLost worked).outbound =
      [.notice (.listLost true 4 11), .notice (.mediaGone true)] := by decide +kernel

theorem test_reset_asserted :
    (after .hardwareResetAsserted worked).drive = Drive.reset ∧
      (after .hardwareResetAsserted worked).held = true := by decide +kernel

/-- Chapter 11.1: high straps give CARTRIDGE, OFF and IMMEDIATE. -/
theorem test_reset_released :
    (after (.hardwareResetReleased ⟨true, true, true⟩ (some false))
      (State.reset.setHeld true)).profile = ⟨.cartridge, false, .immediate⟩ ∧
      (after (.hardwareResetReleased ⟨true, true, true⟩ (some false))
        (State.reset.setHeld true)).drive.state = .spinningUp := by decide +kernel

theorem test_second_seek_timeout :
    let s := atTag70 .seeking .erase [.toAct] .full
    (after .seekTimeout (s.setHead { s.head with seekIssues := 2 })).outbound =
      [.done 70 .seekFailed .none 0 0 0] := by decide +kernel

theorem test_bias_timeout :
    (after .biasTimeout (atTag70 .biasing .erase [.toAct] .full)).outbound =
      [.done 70 .biasFailed .none 0 0 0] := by decide +kernel

theorem test_hold_timeout :
    (after .holdTimeout (atTag70 .holding .erase [.toAct] .full)).outbound =
      [.done 70 .spindle .none 0 0 0] := by decide +kernel

theorem test_spin_up_timeout :
    (after .spinUpTimeout (after (.insertion false) State.reset)).outbound =
      [.notice (.mountFailed .spin)] := by decide +kernel

theorem test_data_timeout :
    (after .dataTimeout ((serving (item 0 (.tag 70) .place 5 0 1) .waitingData .erase none
      worked).setDataTimer (some 0))).outbound = [.done 70 .dataTimeout .none 0 0 0] := by decide +kernel

theorem test_index_lost :
    (after .indexLost worked).outbound = [.notice (.speedLost none)] ∧
      (after .indexLost worked).drive.counter = 65535 := by decide +kernel

theorem test_sector_missing :
    let s := atTag70 .inPass .erase [.toAct] .full
    (after .sectorMissing (s.setHead { s.head with revs := 4 })).outbound =
      [.done 70 .sectorMissing .none 0 0 0] := by decide +kernel

/-- Chapter 6: the take-up of tag 70 forms run A and seeks from track 14,930. -/
theorem test_item_take_up :
    let t := after .itemTakeUp { worked with
      queue := [tag70], slots := slotsFrom 0 0 [.full, .full, .full, .full, .full] }
    t.port = [.seek 6581] ∧ t.head.targets.map Target.sector = [0, 1, 2, 3, 4] := by decide +kernel

/-- Chapter 11: a list of four entries is written to sectors 0 and 1 of control track 1. -/
theorem test_write_back_request_served :
    let t := after .writeBackRequestServed (worked.setList { worked.list with request := true })
    t.head.run.map (fun r => (r.track, r.targets.map Target.sector)) = some (1, [0, 1]) ∧
      t.list.request = false := by decide +kernel

/-- Chapter 8: band 0 is posted with indices from 0 and credited; the position becomes 40, 2, 8. -/
theorem test_lane_post :
    let t := after (.lanePost 0) (running 0 4 worked)
    t.outbound = [.credit (.lane 0) 8] ∧
      ((t.lane 0).offset, (t.lane 0).remaining, (t.lane 0).nextIndex) = (40, 2, 8) := by decide +kernel

/-- Chapter 3, step 2: lane 1's band at 59,150 raises an edge event, captured there. -/
theorem test_lane_post_edge :
    (after (.lanePost 1) (running 1 3 worked)).fault.captured =
      some ⟨9, 59150, .lane 1, .lanePost, .service⟩ := by decide +kernel

/-- A place that a removal frees goes at once to the lane that waits for it (R84): lane 0 is stopped with its item
WAITING among eight, and lane 3 has its pending post placed. -/
theorem test_removal_gives_the_place :
    let s := running 0 4 (worked.setLanes (worked.lanes.set 3
      { Lane.reset with state := .active, pendingPost := some ⟨7, 40, 8, 8⟩ }))
    let t := after (.stopLane 0 7 [0]) { s with
      queue := (List.range 7).map (fun n => item n (.tag (BitVec.ofNat 8 n)) .fetch 5 0 1) ++
        [item 7 (.lane 0) .place 7 0 8], nextId := 8 }
    (t.queue.map WorkItem.route).drop 6 = [.tag 6, .lane 3] ∧ (t.lane 3).pendingPost = none := by
  decide +kernel

/-- The free place goes to the lower of two pending lanes (R84). -/
theorem test_pending_post_placed :
    let pend (n : Nat) (s : State) : State :=
      s.setLanes (s.lanes.set n { s.lane n with pendingPost := some ⟨7, 40, 8, 8⟩ })
    (after .pendingPostPlaced (pend 1 (pend 3 worked))).queue.map WorkItem.route = [.lane 1] := by decide +kernel

/-- Chapter 9, event 7: without a dirty list the release follows, and the UNLOAD is answered after
MEDIA_GONE. -/
theorem test_unload_completion :
    (after .unloadCompletion { worked with
      drive := { readyDrive with state := .unloading, answers := [83] }
      list := { worked.list with dirty := false } }).outbound =
      [.notice (.mediaGone false), .answer 0x10 83 .ok .none] := by decide +kernel

/-- A microsecond with nothing to do changes nothing. -/
theorem test_idle_step : step State.reset = .next State.reset := rfl

/-! ### For each obligation with hypotheses, states and operands that meet them, clause by clause -/

/-- The part with its reset line asserted. -/
def heldPart : State := State.reset.setHeld true

theorem due_iff (limit : Nat) (t : Option Nat) :
    Due limit t ↔ (t.any fun n => decide (limit ≤ n + 1)) = true := by
  cases t <;> simp [Due]

/-- Timer `k` of the six stands one microsecond before its limit and the others have just started; none does at
6. -/
def nearLimit (k : Nat) : State :=
  let t (j limit : Nat) : Option Nat := some (if k = j then limit - 1 else limit - 2)
  { worked with
    drive := { readyDrive with spinUp := t 0 6000000, counter := if k = 5 then 65534 else 65533 }
    head := { Head.reset with seekTimer := t 1 60000, biasTimer := t 2 20000, holdTimer := t 3 1500000 }
    dataTimer := t 4 2000000 }

theorem witness_AnIdleStepIsOneMicrosecond :
    (heldPart.pending = [] ∧ heldPart.held = true) ∧
      ∀ k < 7, (nearLimit k).pending = [] ∧ (nearLimit k).held = false ∧
        (Due 6000000 (nearLimit k).drive.spinUp ↔ k = 0) ∧
        (Due 60000 (nearLimit k).head.seekTimer ↔ k = 1) ∧
        (Due 20000 (nearLimit k).head.biasTimer ↔ k = 2) ∧
        (Due 1500000 (nearLimit k).head.holdTimer ↔ k = 3) ∧
        (Due 2000000 (nearLimit k).dataTimer ↔ k = 4) ∧
        (((nearLimit k).drive.spindle = true ∧ (nearLimit k).drive.counter + 1 = 65535) ↔ k = 5) := by
  simp only [due_iff]
  decide +kernel

theorem witness_TheResetLineHoldsThePartAtItsResetValues :
    heldPart.held = true ∧ Instr.sendBlock ≠ .hardwareResetAsserted ∧
      ∀ straps cartridge, Instr.sendBlock ≠ .hardwareResetReleased straps cartridge :=
  ⟨rfl, by decide +kernel, fun _ _ h => nomatch h⟩

theorem witness_ReleaseOfResetSamplesTheStraps : heldPart.drive.state = .empty := rfl

/-- A HELD record, an item in service and a waiting CLEAR FAULT. -/
def beforeClear : State :=
  { worked with
    fault := ⟨CauseSet.onlyAbsent, false, true, false, some ⟨20, 0, .tag 17, .place, .ordinary⟩⟩
    queue := [{ item 0 (.tag 1) .place 5 0 2 with state := .inService }, item 1 (.lane 3) .place 5 9 1]
    pending := [.clearFault 1 7 []] }

theorem witness_EveryStepKeepsTheFaultLaw :
    FaultLaw beforeClear.fault ∧ ∃ t, step beforeClear = .next t :=
  ⟨.inl rfl, _, rfl⟩

theorem witness_EveryStepKeepsTheQueueLaw :
    QueueLaw beforeClear.queue ∧ ∃ t, step beforeClear = .next t :=
  ⟨by unfold QueueLaw; decide +kernel, _, rfl⟩

theorem witness_EveryStepKeepsTheTableSizes :
    ShapeLaw beforeClear ∧ ∃ t, step beforeClear = .next t :=
  ⟨by unfold ShapeLaw; decide +kernel, _, rfl⟩

theorem witness_EveryStepKeepsTheWaitingLaw :
    let s := { beforeClear with nextId := 2 }
    WaitingLaw s ∧ ∃ t, step s = .next t :=
  ⟨by unfold WaitingLaw PendingLaw; decide +kernel, _, rfl⟩

theorem witness_EveryCommandKeepsItsFrame :
    WellFormed (.clearFault 1 7 []) = true ∧ Instr.clearFault 1 7 [] ≠ .hardwareResetAsserted ∧
      (∀ straps cartridge, Instr.clearFault 1 7 [] ≠ .hardwareResetReleased straps cartridge) ∧
      ∃ t, exec (.clearFault 1 7 []) worked = .next t :=
  ⟨by decide +kernel, by decide +kernel, fun _ _ h => (nomatch h), _, rfl⟩

theorem witness_DecodingReadsTheEncodedFrame :
    (WellFormed (.blank 0xFF 0xFF (List.replicate 1036 0)) = true ∧
      (encodeContent (.blank 0xFF 0xFF (List.replicate 1036 0))).isSome = true) ∧
      (WellFormed (.dataFrame (.lane 255) 0xFFFF (List.replicate 1024 0)) = true ∧
        (encodeContent (.dataFrame (.lane 255) 0xFFFF (List.replicate 1024 0))).isSome = true) := by
  decide +kernel

theorem witness_TheReceiverReadsAFrameOnTheWire :
    (([0xA5] : List Byte) ≠ [] ∧ ([0xA5] : List Byte).length ≤ 1040) ∧
      (List.replicate 1040 (0x3C : Byte) ≠ [] ∧ (List.replicate 1040 (0x3C : Byte)).length ≤ 1040) := by
  decide +kernel

/-- The states and boundary lengths of the receiver's clauses. -/
theorem witness_TheReceiverFollowsItsTable :
    let full (st : RxState) (n : Nat) : Receiver := ⟨st, List.replicate n 0⟩
    (full .hunting 0).state = .hunting ∧ (full .assembling 1041).assembly.length < 1042 ∧
      1042 ≤ (full .assembling 1042).assembly.length ∧ (full .escaped 1041).assembly.length < 1042 ∧
      1042 ≤ (full .escaped 1042).assembly.length := by decide +kernel

theorem witness_DiscardedFramesChangeNothing :
    (worked.held = false ∧ isBadFrame [0xA5, 0x01, 0x50, 0x5A] = true) ∧
      (worked.held = false ∧ isAbort [0xA5, 0x3C, 0x5A] = true) := by decide +kernel

theorem witness_LinkTestsRefuseOrders :
    worked.held = false ∧ (0x63#8 : Byte) ∉ catalogue ∧
      (orderParts (.loadExtents 1 7 [0]) = some (0x20, 1, 7, [0]) ∧
        catalogueLength 0x20 [0] ≠ some 1) ∧
      (orderParts (.loadExtents 0 7 [0, 0]) = some (0x20, 0, 7, [0, 0]) ∧
        catalogueLength 0x20 [0, 0] = some 2 ∧ serviceKind 0x20 = true ∧
        (0x00#8 : Byte).getLsbD 0 = false) := by decide +kernel

theorem witness_FramesLeaveInProductionOrder :
    (let s := worked.setOutbound [.credit (.lane 0) 1]
     s.held = false ∧ s.outbound = .credit (.lane 0) 1 :: []) ∧
      (worked.held = false ∧ worked.outbound = []) := by decide +kernel

/-- The parameters of extent 5, first offset 0 and a count. -/
def access5 (count : Nat) : List Byte := [5, 0, 0] ++ toBytes 2 count

theorem witness_EarlyChecksRefuseInOrder :
    worked.held = false ∧ LinkPasses .blank 0 (access5 1) ∧ LinkPasses .flush 1 [] ∧
      { readyDrive with state := .unloading }.state = .unloading ∧
      (Drive.reset.state ≠ .ready ∧ Drive.reset.state ≠ .unloading) ∧
      (let s := { worked with queue := [item 0 (.tag 9) .fetch 5 0 1] }
       s.drive.state = .ready ∧ TagHeld s 9) ∧
      (worked.drive.state = .ready ∧ ¬ TagHeld worked 9 ∧
        ¬ (1 ≤ orderCount .blank (access5 0) ∧ orderCount .blank (access5 0) ≤ 256) ∧
        ¬ (1 ≤ orderCount .blank (access5 257) ∧ orderCount .blank (access5 257) ≤ 256)) ∧
      (1 ≤ orderCount .blank (access5 256) ∧ orderCount .blank (access5 256) ≤ 256 ∧
        (readyDrive.facts.map fun f => { f with kind := MediaKind.w }).map Facts.kind = some .w) ∧
      ((ItemKind.blank = .blank → worked.drive.facts.map Facts.kind ≠ some .w) ∧
        ItemKind.blank ≠ .fetch ∧ { readyDrive with tab := some true }.tab = some true) := by
  unfold LinkPasses TagHeld
  decide +kernel

/-- A record HELD by a violation, and the same one overrun. -/
def heldRecord : FaultRecord :=
  ⟨CauseSet.onlyAbsent, false, false, false, some ⟨20, 0, .tag 17, .place, .ordinary⟩⟩

theorem witness_ViolatingOrdersAreRefusedAndRecorded :
    let p : List Byte := [48, 0, 0, 0, 1]
    let meets (s : State) : Prop :=
      s.held = false ∧ namesExtent .place = true ∧ LinkPasses .place 0 p ∧ EarlyPasses s .place 9 p ∧
        s.causes (accessOf .place 0 9 p) ≠ CauseSet.empty
    (meets worked ∧ worked.fault.captured = none) ∧
      (let s := worked.setFault { heldRecord with overrun := true }
       meets s ∧ s.fault.captured ≠ none ∧ s.fault.overrun = true) ∧
      (let s := (running 1 3 worked).setFault heldRecord
       meets s ∧ FaultHeld s ∧ PendingLaw s ∧ s.lanes.length = 4 ∧
        (s.lane 1).state = .active ∧ (s.lane 0).state = .idle) := by
  unfold LinkPasses EarlyPasses TagHeld FaultHeld PendingLaw
  refine ⟨?_, ?_, ?_⟩ <;> dsimp only <;> decide

/-- Chapter 2's access at U, a full queue, which turns away a PLACE and a STORE, and a lane that waits for the next
place. -/
theorem witness_LaterChecksRefuseAndTheEdgeEventStands :
    let p : List Byte := [12, 0x0F, 0x9F, 0, 2]
    let full := { worked with queue := List.replicate 8 (item 0 (.lane 1) .place 5 0 1) }
    let meets (s : State) : Prop :=
      s.held = false ∧ LinkPasses .place 0 (access5 1) ∧ EarlyPasses s .place 9 (access5 1) ∧
        s.causes (accessOf .place 0 9 (access5 1)) = CauseSet.empty ∧
        beyondUsers s.drive.facts (s.entry 5) (accessOf .place 0 9 (access5 1)) = false
    (worked.held = false ∧ namesExtent .place = true ∧ LinkPasses .place 0 p ∧
        EarlyPasses worked .place 9 p ∧
        worked.causes (accessOf .place 0 9 p) = CauseSet.empty ∧
        beyondUsers worked.drive.facts (worked.entry 12) (accessOf .place 0 9 p) = true) ∧
      (meets full ∧ 8 ≤ full.queue.length ∧ namesExtent .store = false ∧ LinkPasses .store 1 [] ∧
        EarlyPasses full .store 9 []) ∧
      (let s := worked.setLanes (worked.lanes.set 3
        { Lane.reset with state := .active, pendingPost := some ⟨7, 40, 8, 8⟩ })
       meets s ∧ ∃ n < 4, (s.lane n).pendingPost ≠ none) := by
  unfold LinkPasses EarlyPasses TagHeld
  dsimp only
  refine ⟨?_, ?_, ?_⟩ <;> decide +kernel

/-- Each kind's order is accepted with seven items queued, chapter 2's access to the edge granule among them. -/
theorem witness_AcceptedOrdersJoinTheTail :
    let s := { worked with queue := List.replicate 7 (item 0 (.lane 1) .place 5 0 1) }
    s.held = false ∧ s.queue.length < 8 ∧ (∀ n < 4, (s.lane n).pendingPost = none) ∧
      (∀ k ∈ [ItemKind.fetch, .place, .blank], LinkPasses k 0 (access5 256) ∧
        EarlyPasses s k 9 (access5 256) ∧ s.causes (accessOf k 0 9 (access5 256)) = CauseSet.empty ∧
        beyondUsers s.drive.facts (s.entry 5) (accessOf k 0 9 (access5 256)) = false) ∧
      (let p : List Byte := [5, 0x3F, 0xAC, 0, 84]
       LinkPasses .place 1 p ∧ EarlyPasses s .place 9 p ∧
        s.causes (accessOf .place 1 9 p) = CauseSet.empty ∧
        beyondUsers s.drive.facts (s.entry 5) (accessOf .place 1 9 p) = false ∧
        touchesEdge (s.entry 5) (accessOf .place 1 9 p) = true) ∧
      ∀ k ∈ [ItemKind.store, .flush], LinkPasses k 1 [] ∧ EarlyPasses s k 9 [] := by
  unfold LinkPasses EarlyPasses TagHeld
  dsimp only
  refine ⟨?_, ?_, ?_, ?_, ?_, ?_⟩ <;> decide +kernel

/-- A PLACE item of 33 blocks alone; and the shares of four items behind one another: the front FETCH is given what it
lacks, the items behind it the 24 that they may hold, and the walk ends at the item that lacks more. -/
theorem witness_TheWalkKeepsTheFrontReserve :
    let front := item 0 (.tag 1) .place 5 0 33
    let s := { worked with queue := [front] }
    s.queue = front :: [] ∧ heldBehind front.id s.slots ≤ 24 ∧
      heldBehind 9 (slotsFrom 0 0 (List.replicate 24 .awaiting)) ≤ 24 ∧
      (front.kind = .place ∧ front.ended = none ∧ front.given = 0 ∧ 1 ≤ front.count ∧
        s.slots.length = 32 ∧ ∀ x ∈ s.slots, x.state = .free) ∧
      walkShares 0 32 0 [item 0 (.tag 1) .fetch 5 0 5, item 1 (.lane 2) .place 5 0 20,
        item 2 (.tag 2) .blank 5 0 1, item 3 (.tag 3) .place 5 0 9, item 4 (.tag 4) .place 5 0 1] =
        [5, 20, 0, 4, 0] := by decide +kernel

/-- A descriptor of mode BAND on extent 7 from offset 0. -/
def bandOf (band stride count : Nat) : Descriptor :=
  ⟨.band, 7, 0, BitVec.ofNat 16 band, BitVec.ofNat 16 stride, BitVec.ofNat 16 count, 255, 0⟩

/-- With the boundary values of each clause: extent 12's offsets 3999 and 4000 lie at U - 1 and at U; an extent of
all offsets, left at its top; bands of 1 and 64, strides of one band and of 4096, a count of 1, and those just
outside. -/
theorem witness_AccessesAndFootprintsAreCheckedByTheRules :
    let whole := entry 0 1023
    let at' (last : Nat) : Access := ⟨.place, .ordinary, .tag 1, 12, 0, last⟩
    (worked.extents.length = 48 ∧ 48 ≤ (accessOf .fetch 0 1 [48, 0, 0, 0, 1]).extent ∧
      ((worked.extents[47]?).map Extent.v = some false ∧ (worked.extents[5]?).map Extent.v = some true)) ∧
      (CauseSet.onlyAbsent ≠ CauseSet.empty ∧ CauseSet.onlyAbsent ≠ CauseSet.onlyRange ∧
        whole.high < 65536 ∧ (worked.entry 9).low = 59136 ∧ 59135 < (worked.entry 9).low ∧
        whole.low ≤ 65535 ∧ 65535 ≤ whole.high ∧ whole.high + 1 = 65536) ∧
      ((worked.entry 12).low ≤ 0 ∧ 4000 ≤ (worked.entry 12).high ∧
        beyondUsers worked.drive.facts (worked.entry 12) (at' 3999) = false ∧
        beyondUsers worked.drive.facts (worked.entry 12) (at' 4000) = true) ∧
      ((∀ d ∈ [bandOf 1 1 1, bandOf 64 64 1, bandOf 64 4096 65535], d.startable = true) ∧
        (∀ d ∈ [bandOf 0 1 1, bandOf 65 65 1, bandOf 64 63 1, bandOf 64 4097 1, bandOf 1 1 0],
          d.startable = false) ∧
        ((bandOf 64 4096 65535).footprint .service 3).last = 65534 * 4096 + 63) := by decide +kernel

/-- Extent 5's edge granule begins at 16,320 and extent 9's ends at 59,199; the four states of the record. -/
theorem witness_EdgeEventsReachTheRecord :
    let up (last : Nat) : Access := ⟨.place, .ordinary, .tag 1, 5, 16000, last⟩
    let down (first : Nat) : Access := ⟨.blank, .ordinary, .tag 1, 9, first, 65535⟩
    touchesEdge (worked.entry 5) (up 16319) = false ∧ touchesEdge (worked.entry 5) (up 16320) = true ∧
      touchesEdge (worked.entry 9) (down 59199) = true ∧
      touchesEdge (worked.entry 9) (down 59200) = false ∧ worked.fault.captured = none ∧
      (heldRecord.captured ≠ none ∧ heldRecord.overrun = false ∧ heldRecord.secondEdge = false) ∧
      ({ heldRecord with secondEdge := true }.captured ≠ none ∧
        { heldRecord with secondEdge := true }.secondEdge = true) ∧
      { heldRecord with overrun := true }.overrun = true := by decide +kernel

theorem witness_TheFaultRecordIsShownAndCleared :
    worked.held = false ∧ ([0] : List Byte) ≠ [] ∧ (0xFE#8 : Byte).getLsbD 0 = false ∧
      (0x01#8 : Byte).getLsbD 0 = true := by decide +kernel

theorem witness_TablesAreShownAsTheyStand : worked.held = false := rfl

theorem witness_LoadExtentsStopsAtAReferencedEntry :
    (worked.held = false ∧ (0x01#8 : Byte).getLsbD 0 = true ∧
      (List.replicate 392 (0 : Byte)).length = 8 * (49#8 : Byte).toNat ∧ worked.extents.length = 48 ∧
      ¬ (1 ≤ (49#8 : Byte).toNat ∧ (49#8 : Byte).toNat ≤ 48 ∧ 0 + (49#8 : Byte).toNat ≤ 48)) ∧
      ((List.replicate 8 (0 : Byte)).length = 8 * (1#8 : Byte).toNat ∧ 1 ≤ (1#8 : Byte).toNat ∧
        (1#8 : Byte).toNat ≤ 48 ∧ (47#8 : Byte).toNat + (1#8 : Byte).toNat ≤ 48) := by decide +kernel

theorem witness_MarkAllSetsTheChosenAttribute :
    worked.held = false ∧ (0x01#8 : Byte).getLsbD 0 = true := by decide +kernel

theorem witness_LegalOffsetsMapIntoTheExtent :
    let up := entry 0 1023
    let down := { entry 8191 0 with ds := true }
    (up.ds = false ∧ up.low ≤ 0 ∧ 65535 ≤ up.high) ∧
      (down.ds = true ∧ down.low ≤ 65472 ∧ 65535 ≤ down.high) := by decide +kernel

/-- The worked zone table, its first and last PSA, and chapter 2's resolution: block 1 from offset 10,000 of extent 5,
whose PSA 259,601 is unlisted, and block 0, whose PSA 259,600 is a listed source and lies in the last zone. -/
theorem witness_ResolutionFindsZoneTrackAndSector :
    let zs : List Zone := [⟨4, 6000, 40⟩, ⟨6004, 5000, 34⟩, ⟨11004, 4000, 27⟩]
    let it := item 0 (.tag 1) .place 5 10000 2
    (ZonesTile 4 zs ∧ (0 < zonesTotal zs ∧ psaOf 0 zs 4 0 = some 0) ∧
      517999 < zonesTotal zs ∧ psaOf 0 zs 15003 26 = some 517999) ∧
      (worked.drive.facts = readyDrive.facts ∧ it.extent = some 5 ∧ it.first = some 10000 ∧
        worked.list.entries.Pairwise (fun a b => a.source < b.source) ∧
        ⟨259600, 6⟩ ∈ worked.list.entries ∧ (worked.entry 5).psa 10000 = 259600 ∧
        ∀ x ∈ worked.list.entries, x.source ≠ (worked.entry 5).psa 10001) := by
  simp only [ZonesTile]
  decide +kernel

/-- `n` entries for the even sources. -/
def evenEntries (n : Nat) : List ListEntry := (List.range n).map fun k => ⟨2 * k, k⟩

theorem evenEntries_ascend (n : Nat) :
    (evenEntries n).Pairwise fun a b => a.source < b.source :=
  List.pairwise_map.2 (List.pairwise_lt_range.imp fun h => by show 2 * _ < 2 * _; omega)

theorem evenEntries_even (n : Nat) : ¬ ∃ e ∈ evenEntries n, e.source = 1 := by
  rintro ⟨e, he, hs⟩
  obtain ⟨k, -, rfl⟩ := List.mem_map.1 he
  exact absurd hs (by show ¬ 2 * k = 1; omega)

theorem witness_AllocationFollowsTheTable :
    let l (n : Nat) : ReplacementList := ⟨true, [⟨3, 0⟩, ⟨7, 1⟩], n, false, false⟩
    (((l 2).entries.Pairwise fun a b => a.source < b.source) ∧
      (∃ e ∈ (l 5).entries, e.source = 7) ∧ (l 5).next = 5 ∧ (l 2).next ≠ 5 ∧
      (¬ ∃ e ∈ (l 2).entries, e.source = 4) ∧ (l 2).entries.length ≠ 1024) ∧
      ((evenEntries 1024).Pairwise fun a b => a.source < b.source) ∧
      (¬ ∃ e ∈ evenEntries 1024, e.source = 1) ∧ (evenEntries 1024).length = 1024 :=
  ⟨by decide +kernel, evenEntries_ascend 1024, evenEntries_even 1024, by simp [evenEntries]⟩

/-- A list one short of full with the last spare left: an allocation that succeeds. -/
theorem witness_AllocationKeepsTheListLaw :
    let l : ReplacementList := ⟨true, [⟨3, 0⟩, ⟨7, 1⟩], 4, false, false⟩
    ListLaw 10 5 l ∧ 9 < 10 ∧ ∃ l', allocate 5 9 l = .spare l' :=
  ⟨by unfold ListLaw; decide +kernel, by decide +kernel, _, rfl⟩

theorem witness_TheListImageReadsBack :
    ListLaw 524288 2048 worked.list ∧ ListLaw 524288 2048 ⟨true, [], 2048, false, false⟩ := by
  unfold ListLaw
  decide +kernel

set_option maxRecDepth 20000 in
/-- Chapter 1's worked format record, which passes its nine tests and is read. -/
theorem witness_TheFormatAndExtentRecordsAreReadAsTheyStand :
    let b := (formatImage 1 [⟨4, 6000, 40⟩, ⟨6004, 5000, 34⟩, ⟨11004, 4000, 27⟩] 516000 2000).take 93
    let zones : List Zone := (List.range (field b 5 1)).map fun i =>
      ⟨field b (6 + 5 * i) 2, field b (8 + 5 * i) 2, field b (10 + 5 * i) 1⟩
    readFormat b = readyDrive.facts ∧
      (field b 91 2 = (crc16 (b.take 91)).toNat ∧ field b 0 2 = 0xC340 ∧ field b 2 1 = 1 ∧
        field b 3 2 = 1024 ∧ 1 ≤ field b 5 1 ∧ field b 5 1 ≤ 16 ∧
        zones = [⟨4, 6000, 40⟩, ⟨6004, 5000, 34⟩, ⟨11004, 4000, 27⟩] ∧
        (∀ z ∈ zones, 17 ≤ z.spt ∧ z.spt ≤ 40) ∧
        field b 86 3 + field b 89 2 = zonesTotal zones ∧ field b 86 3 ≤ 524288 ∧ field b 89 2 ≤ 2048) ∧
      worked.extents.length = 48 := by decide +kernel

theorem witness_InsertionAndSpinUpTimeout :
    let spinning := after (.insertion false) State.reset
    (State.reset.held = false ∧ State.reset.drive.state = .empty) ∧ worked.drive.state ≠ .empty ∧
      (spinning.held = false ∧ spinning.drive.state = .spinningUp ∧
        spinning.drive.spinUp.isSome = true ∧ spinning.drive.speed = .offSpeed ∧
        spinning.drive.spindle = true) ∧
      worked.drive.state ≠ .spinningUp := by decide +kernel

/-- Periods at the ends of the window and of the counter, arrivals after an index loss, with the spindle left ON
and turned OFF by it, and a HOLDING head in READY and in UNLOADING. -/
theorem witness_IndexArrivalsMeasureThePeriod :
    let spinning := after (.insertion false) State.reset
    let second := spinning.setDrive { spinning.drive with tracking := true, good := 1 }
    let held (d : DriveState) := (atTag70 .holding .erase [.toAct] .full).setDrive
      { readyDrive with state := d, speed := .offSpeed, good := 1 }
    let mounting := (worked.startControlRead .format).setDrive { readyDrive with state := .mounting }
    let waiting := mounting.setHead { mounting.head with activity := .awaitingStart }
    (State.reset.held = false ∧ State.reset.drive.spindle = false) ∧
      (worked.drive.spindle = true ∧ 65535 ≤ worked.drive.counter + 65535 ∧
        worked.drive.counter ≠ 65535 ∧ (after .indexLost worked).drive.spindle = true) ∧
      (waiting.drive.spindle = true ∧ waiting.drive.counter ≠ 65535 ∧
        (after .indexLost waiting).drive.spindle = false) ∧
      ((after .indexLost worked).drive.spindle = true ∧
        (after .indexLost worked).drive.counter = 65535 ∧
        (after .indexLost worked).drive.tracking = false) ∧
      (spinning.drive.spindle = true ∧ spinning.drive.counter + 65534 < 65535 ∧
        spinning.drive.tracking = false) ∧
      (worked.drive.spindle = true ∧ worked.drive.counter + 17000 < 65535 ∧
        worked.drive.tracking = true ∧ worked.drive.state = .ready) ∧
      ((atTag70 .inPass .erase [.toAct] .full).head.activity = .inPass ∧
        (atTag70 .inPass .erase [.toAct] .full).drive.state ≠ .spinningUp) ∧
      (second.drive.state = .spinningUp ∧ second.drive.speed = .offSpeed ∧
        min 2 (second.drive.good + 1) = 2 ∧ second.drive.counter + 16334 < 65535) ∧
      ∀ d ∈ [DriveState.ready, .unloading], (held d).head.activity = .holding ∧
        (held d).drive.state = d ∧ (held d).drive.speed = .offSpeed ∧
        min 2 ((held d).drive.good + 1) = 2 := by decide +kernel

/-- Tag 70 while the head serves it. -/
def served70 : WorkItem := { tag70 with state := .inService }

theorem witness_IndexLossStopsTracking :
    let pass := atTag70 .inPass .erase [.toAct] .full
    (State.reset.held = false ∧ State.reset.drive.spindle = false) ∧
      (worked.drive.spindle = true ∧ worked.drive.counter ≠ 65535 ∧
        worked.head.activity ≠ .awaitingStart ∧ worked.head.activity ≠ .inPass) ∧
      (pass.held = false ∧ pass.drive.spindle = true ∧ pass.drive.counter ≠ 65535 ∧
        pass.head.activity = .inPass ∧ Serves served70 pass) := by
  unfold Serves
  decide +kernel

theorem witness_EjectAndUnloadStartAnUnload :
    let inState (d : DriveState) := worked.setDrive { readyDrive with state := d }
    (worked.held = false ∧ State.reset.drive.state = .empty) ∧
      (inState .unloading).drive.state = .unloading ∧ (inState .faulted).drive.state = .faulted ∧
      (inState .spinningUp).drive.state = .spinningUp ∧ (inState .mounting).drive.state = .mounting ∧
      worked.drive.state = .ready := by decide +kernel

theorem witness_AnUnloadCompletesInOrder :
    let s := worked.setDrive { readyDrive with state := .unloading }
    let tried := worked.setDrive { readyDrive with state := .unloading, tried := true }
    (worked.held = false ∧ worked.drive.state ≠ .unloading) ∧
      (s.held = false ∧ s.drive.state = .unloading ∧ s.queue = [] ∧ s.head.task = .none ∧
        s.list.loaded = true ∧ s.list.dirty = true ∧ s.drive.tried = false) ∧
      (tried.drive.state = .unloading ∧ tried.queue = [] ∧ tried.head.task = .none ∧
        ¬ (tried.list.loaded = true ∧ tried.list.dirty = true ∧ tried.drive.tried = false)) := by
  decide +kernel

/-- With a FETCH half delivered, a lane item in service, and both. -/
theorem witness_ALostCartridgeEmptiesTheDrive :
    let s := { running 1 3 worked with
      queue := [{ item 0 (.tag 1) .fetch 5 0 2 with
        given := 2, blocksDone := 1, state := .inService }, item 1 (.lane 1) .place 9 59150 16]
      slots := slotsFrom 0 0 [.ready, .reading], nextId := 2 }
    (State.reset.held = false ∧ State.reset.drive.state = .empty) ∧
      (s.held = false ∧ s.drive.state ≠ .empty ∧ (s.queue.map WorkItem.id).Nodup ∧
        s.lanes.length = 4) := by decide +kernel

/-- With a seek in flight, and with each control read on its way, its track reached and not. -/
theorem witness_RestartClearsTheWorkInProgress :
    let seeking := atTag70 .seeking .erase [.toAct] .full
    let onTrack1 := worked.setHead { Head.reset with track := some 1 }
    (worked.held = false ∧ (0x01#8 : Byte).getLsbD 0 = true) ∧
      ((∀ r, seeking.head.task ≠ .controlRead r) ∧ seeking.head.activity = .seeking) ∧
      (∀ r, (worked.startControlRead r).head.task = .controlRead r) ∧
      ((onTrack1.startControlRead .listHeader).head.task = .controlRead .listHeader ∧
        (onTrack1.startControlRead .listHeader).head.activity = .awaitingStart) :=
  ⟨by decide +kernel, ⟨fun _ h => (nomatch h), rfl⟩, fun r => by cases r <;> rfl, rfl, rfl⟩

theorem witness_TheProfileIsSetAndTheStateShown :
    worked.held = false ∧ (0x01#8 : Byte).getLsbD 0 = true := by decide +kernel

theorem witness_StartLaneChecksAndStarts :
    let free (s : State) (n : Nat) : Prop :=
      ((s.lane n).state = .idle ∨ (s.lane n).state = .halted) ∧ (s.lane n).stops = [] ∧
        ∀ it ∈ s.queue, it.route ≠ .lane n
    let numbers (n g : Byte) : Prop := n.toNat < 4 ∧ g.toNat < 32
    let tabbed := worked.setDrive { readyDrive with tab := some true }
    let toFootprint (g n : Nat) := (worked.descriptorAt g).footprint .service n
    let absent := worked.setDescriptors (worked.descriptors.set 31 ⟨.run, 48, 0, 0, 0, 1, 255, 0⟩)
    let beyond := worked.setDescriptors (worked.descriptors.set 31 ⟨.run, 12, 4000, 0, 0, 1, 255, 0⟩)
    (worked.held = false ∧ ¬ numbers 4 0 ∧ ¬ numbers 0 32 ∧ numbers 3 31) ∧
      { readyDrive with state := .unloading }.state = .unloading ∧
      (Drive.reset.state ≠ .ready ∧ Drive.reset.state ≠ .unloading) ∧
      (tabbed.drive.state = .ready ∧ tabbed.drive.tab = some true) ∧
      (worked.drive.state = .ready ∧ worked.drive.tab ≠ some true ∧ ¬ free (running 1 3 worked) 1) ∧
      (free worked 3 ∧ (worked.descriptorAt 31).startable = false) ∧
      ((absent.descriptorAt 31).startable = true ∧ free absent 3 ∧ ¬ FaultHeld absent ∧
        FaultHeld (absent.setFault heldRecord) ∧
        absent.causes ((absent.descriptorAt 31).footprint .service 3) ≠ CauseSet.empty) ∧
      ((beyond.descriptorAt 31).startable = true ∧
        beyond.causes ((beyond.descriptorAt 31).footprint .service 3) = CauseSet.empty ∧
        beyondUsers beyond.drive.facts (beyond.entry 12)
          ((beyond.descriptorAt 31).footprint .service 3) = true) ∧
      ((worked.descriptorAt 4).startable = true ∧
        worked.causes (toFootprint 4 0) = CauseSet.empty ∧
        beyondUsers worked.drive.facts (worked.entry 7) (toFootprint 4 0) = false) := by
  unfold FaultHeld
  dsimp only
  refine ⟨?_, ?_, ?_, ?_, ?_, ?_, ?_, ?_, ?_⟩ <;> decide

theorem witness_StopLaneStopsOrDrains :
    let put (l : Lane) : State := worked.setLanes (worked.lanes.set 3 l)
    let active := running 3 4 worked
    let waits : WorkItem := item 0 (.lane 3) .place 7 0 8
    (worked.held = false ∧ ¬ (4#8 : Byte).toNat < 4 ∧ (3#8 : Byte).toNat < 4 ∧
      worked.lanes.length = 4 ∧ (worked.lane 3).state = .idle) ∧
      (let l := (put { Lane.reset with state := .halted, halt := some .overrun }).lane 3
       l.state = .halted ∧ l.stops = []) ∧
      (let l := (put { Lane.reset with state := .halted, stops := [1] }).lane 3
       l.state = .halted ∧ l.stops ≠ []) ∧
      ((put { Lane.reset with state := .draining }).lane 3).state = .draining ∧
      (let s := { active with queue := [waits] }
       (s.lane 3).state = .active ∧ ∀ it ∈ s.queue, it.route = .lane 3 → it.state = .waiting) ∧
      (let s := { active with queue := [{ waits with state := .inService }] }
       (s.lane 3).state = .active ∧ ∃ it ∈ s.queue, it.route = .lane 3 ∧ it.state ≠ .waiting) := by
  decide +kernel

/-- Band 0 of descriptor 4, with seven items queued, with eight, and with another lane waiting; chapter 3's piece
on the edge granule; extent 7 taken away, the record EMPTY, HELD and overrun; chapter 2's run at U. -/
theorem witness_LanePostsItsNextPiece :
    let s := running 0 4 worked
    let a : Access := ⟨.lanePost, .service, .lane 0, 7, 0, 7⟩
    let queued (n : Nat) : State := { s with queue := List.replicate n (item 0 (.tag 1) .place 5 0 1) }
    let gone := s.setExtents (s.extents.set 7 Extent.blank)
    let waits := s.setLanes (s.lanes.set 3
      { Lane.reset with state := .active, pendingPost := some ⟨7, 40, 8, 8⟩ })
    let beyond := running 0 31
      (worked.setDescriptors (worked.descriptors.set 31 ⟨.run, 12, 4000, 0, 0, 1, 255, 0⟩))
    (s.held = false ∧ s.lanes.length = 4 ∧ (s.lane 0).state = .active ∧ (s.lane 0).pendingPost = none ∧
      0 < (s.lane 0).remaining ∧ (s.descriptorAt (s.lane 0).descriptor).mode ≠ .none ∧
      (s.lane 3).state ≠ .active) ∧
      (s.causes a = CauseSet.empty ∧ beyondUsers s.drive.facts (s.entry a.extent) a = false) ∧
      touchesEdge (worked.entry 9) ⟨.lanePost, .service, .lane 1, 9, 59150, 59165⟩ = true ∧
      (¬ 8 ≤ (queued 7).queue.length ∧ (∀ m < 4, ((queued 7).lane m).pendingPost = none) ∧
        ((queued 7).queue.filter fun it => decide (it.route = .lane 0)).length < 2) ∧
      8 ≤ (queued 8).queue.length ∧ (∃ m < 4, (waits.lane m).pendingPost ≠ none) ∧
      ((beyond.lane 0).state = .active ∧ (beyond.lane 0).remaining = 1 ∧
        beyond.causes ⟨.lanePost, .service, .lane 0, 12, 4000, 4000⟩ = CauseSet.empty ∧
        beyondUsers beyond.drive.facts (beyond.entry 12)
          ⟨.lanePost, .service, .lane 0, 12, 4000, 4000⟩ = true) ∧
      (gone.causes a ≠ CauseSet.empty ∧ (gone.lane 0).state = .active ∧ ¬ FaultHeld gone ∧
        ¬ FaultHeld (gone.setFault { heldRecord with overrun := true }) ∧
        FaultHeld (gone.setFault heldRecord)) := by
  unfold FaultHeld
  decide +kernel

theorem witness_AFreePlaceGoesToTheLowestPendingLane :
    let s := worked.setLanes (worked.lanes.set 3
      { Lane.reset with state := .active, pendingPost := some ⟨7, 40, 8, 8⟩ })
    let queued (n : Nat) : State := { s with queue := List.replicate n (item 0 (.tag 1) .place 5 0 1) }
    (s.held = false ∧ s.lanes.length = 4 ∧
      8 ≤ (queued 8).queue.length ∧ ∀ n < 4, (worked.lane n).pendingPost = none) ∧
      ((queued 7).queue.length < 8 ∧ ((queued 7).lane 3).pendingPost = some ⟨7, 40, 8, 8⟩ ∧
        ∀ m < 3, ((queued 7).lane m).pendingPost = none) := by decide +kernel

/-- Lane 3 in each state, and ACTIVE at the end of a ring, of a descriptor without a link, and of descriptor 4 with
descriptor 5 as chapter 8 has it, blank, over an absent extent, and at U. -/
theorem witness_TheLaneEngineTakesTheResultOfItsItem :
    let put (l : Lane) : State := worked.setLanes (worked.lanes.set 3 l)
    let r (o : ItemOutcome) : LaneItemResult := ⟨3, o, .none, 8, 0⟩
    let atEnd (g : Nat) : State := put { Lane.reset with state := .active, descriptor := g }
    let linked (d : Descriptor) : State := (atEnd 4).setDescriptors (worked.descriptors.set 5 d)
    let last (s : State) : Prop := (s.lane 3).state = .active ∧ (r .ok).outcome = .ok ∧
      (s.lane 3).remaining = 0 ∧ (∀ it ∈ s.queue, it.route ≠ .lane 3) ∧ (s.lane 3).pendingPost = none
    let links (s : State) : Prop := last s ∧ (s.descriptorAt 4).mode ≠ .ring ∧
      (s.descriptorAt 4).link.toNat = 5 ∧ (s.descriptorAt 5).startable = true
    let foot (s : State) : Access := (s.descriptorAt 5).footprint (s.lane 3).cls 3
    let absent := linked ⟨.run, 48, 0, 0, 0, 1, 255, 0⟩
    let beyond := linked ⟨.run, 12, 4000, 0, 0, 1, 255, 0⟩
    ((r .ok).lane < 4 ∧ worked.lanes.length = 4 ∧ (worked.lane 3).state = .idle) ∧
      (let l := (put { Lane.reset with state := .halted, halt := some .overrun }).lane 3
       l.state = .halted ∧ l.stops = []) ∧
      (let l := (put { Lane.reset with state := .halted, stops := [1] }).lane 3
       l.state = .halted ∧ l.stops ≠ []) ∧
      ((put { Lane.reset with state := .draining, stops := [1, 2] }).lane 3).state = .draining ∧
      (((running 3 4 worked).lane 3).state = .active ∧ (r .spindle).outcome ≠ .ok ∧
        ((running 3 4 worked).lane 3).remaining ≠ 0) ∧
      (last (atEnd 5) ∧ (worked.descriptorAt 5).mode = .ring) ∧
      (last (atEnd 3) ∧ (worked.descriptorAt 3).mode ≠ .ring ∧
        32 ≤ (worked.descriptorAt 3).link.toNat) ∧
      (last (linked Descriptor.blank) ∧
        ((linked Descriptor.blank).descriptorAt 5).startable = false) ∧
      (links absent ∧ absent.causes (foot absent) ≠ CauseSet.empty ∧ ¬ FaultHeld absent ∧
        FaultHeld (absent.setFault heldRecord)) ∧
      (links beyond ∧ beyond.causes (foot beyond) = CauseSet.empty ∧
        beyondUsers beyond.drive.facts (beyond.entry 12) (foot beyond) = true) ∧
      (links (atEnd 4) ∧ (atEnd 4).causes (foot (atEnd 4)) = CauseSet.empty ∧
        beyondUsers (atEnd 4).drive.facts ((atEnd 4).entry 7) (foot (atEnd 4)) = false) := by
  unfold FaultHeld
  dsimp only
  refine ⟨?_, ?_, ?_, ?_, ?_, ?_, ?_, ?_, ?_, ?_, ?_⟩ <;> decide +kernel

theorem witness_LoadDescriptorsStopsAtAHeldDescriptor :
    (worked.held = false ∧ (0x01#8 : Byte).getLsbD 0 = true ∧ worked.descriptors.length = 32 ∧
      (List.replicate 396 (0 : Byte)).length = 12 * (33#8 : Byte).toNat ∧
      ¬ (1 ≤ (33#8 : Byte).toNat ∧ (33#8 : Byte).toNat ≤ 32 ∧ 0 + (33#8 : Byte).toNat ≤ 32)) ∧
      ((List.replicate 12 (0 : Byte)).length = 12 * (1#8 : Byte).toNat ∧ 1 ≤ (1#8 : Byte).toNat ∧
        (1#8 : Byte).toNat ≤ 32 ∧ (31#8 : Byte).toNat + (1#8 : Byte).toNat ≤ 32) := by decide +kernel

theorem witness_TheHeadTakesUpTheFrontItem :
    let front (it : WorkItem) (sl : List SlotState) : State :=
      { worked with queue := [it], slots := slotsFrom 0 0 sl }
    let controlItem (k : ItemKind) : WorkItem :=
      { item 0 (.tag 1) k 0 0 1 with extent := none, first := none }
    let zoned (k : ItemKind) : WorkItem := item 0 (.tag 1) k 5 0 2
    let place := front (zoned .place) [.awaiting]
    let fetch := front (zoned .fetch) []
    (place.held = false ∧ place.queue = zoned .place :: [] ∧
      (zoned .place).state = .waiting ∧ place.head.task = .none ∧ place.list.request = false) ∧
      (served70.state ≠ .waiting ∧ (worked.startControlRead .format).head.task ≠ .none) ∧
      (place.drive.facts.isSome = true ∧ slotState 0 0 place.slots ≠ .full) ∧
      (fetch.drive.facts.isSome = true ∧ slotState 0 0 fetch.slots ≠ .reading) ∧
      (slotState 0 0 (front (zoned .place) [.full, .full]).slots = .full ∧
        slotState 0 0 (front (zoned .fetch) [.reading, .reading]).slots = .reading ∧
        ∀ k ∈ [ItemKind.place, .fetch, .blank], (zoned k).kind = k ∧
          (zoned k).blocksDone < (zoned k).count ∧ (worked.itemPlace (zoned k) 0).isSome = true) ∧
      (controlItem .store).kind = .store ∧ ((controlItem .flush).kind = .flush ∧
        worked.list.dirty = true) ∧
      { worked.list with dirty := false }.dirty = false := by
  decide +kernel

/-- The last sector of a control write in its verify pass awaits its result: of a STORE item, of a FLUSH item, of
a write-back inside a PLACE item, and of a write-back of its own. -/
theorem witness_ControlWritesAreServedToTheirEnd :
    let asked := worked.setList { worked.list with request := true }
    let clean := worked.setList { worked.list with request := true, dirty := false }
    let t : Target := ⟨1, 1, .awaiting, true, 0⟩
    let run (first : Stage) (w : RunWork) : Run := ⟨1, [⟨0, 0, first, true, 0⟩, t], w⟩
    let writing (k : ItemKind) (r : Run) : State := serving (item 0 (.tag 1) k 5 10018 5) .inPass .verify
      (some r) worked
    let served (k : ItemKind) : WorkItem := { item 0 (.tag 1) k 5 10018 5 with state := .inService }
    let inside := writing .place (run .good .listImage)
    let ofItem := inside.setHead { inside.head with failing := [2] }
    let alone := inside.setHead { inside.head with task := .writeBack .unload }
    let hold := alone.setHead { alone.head with activity := .holding }
    (worked.held = false ∧ worked.list.request = false) ∧
      (asked.held = false ∧ asked.list.request = true ∧ asked.head.task = .none ∧
        asked.list.dirty = true) ∧
      (clean.list.request = true ∧ clean.head.task = .none ∧ clean.list.dirty = false) ∧
      (∀ k ∈ [ItemKind.store, .flush, .place], ∀ w ∈ [RunWork.store, .listImage],
        ∀ first ∈ [Stage.good, .bad], let r := run first w
        (writing k r).head.run = some r ∧ InPass (writing k r) .verify r ∧
          LastAwaited r [⟨0, 0, first, true, 0⟩] t [] ∧ (writing k r).head.task = .item ∧
          (writing k r).queue.head? = some (served k) ∧ (served k).kind = k) ∧
      (ofItem.head.failing = 2 :: [] ∧ ofItem.drive.facts.isSome = true ∧
        (ofItem.itemPlace (served .place) 2).isSome = true) ∧
      (InPass alone .verify (run .good .listImage) ∧ alone.head.task = .writeBack .unload) ∧
      (hold.head.run = some (run .good .listImage) ∧ HeadFails hold .holdTimeout .spindle hold) ∧
      (∀ i ∈ [Instr.verifyCompareResult 1 1 false, .sectorIdArrival 1 1 true],
        ResultFails (.verifyCompareResult 1 1 false) (run .good .store) t i) := by
  unfold InPass LastAwaited
  dsimp only
  refine ⟨?_, ?_, ?_, ?_, ?_, ?_, ⟨rfl, .inr (.inr (.inl ⟨rfl, rfl, rfl, rfl⟩))⟩, ?_⟩
  iterate 6 decide +kernel
  simp [ResultFails]

set_option maxRecDepth 20000 in
/-- Each control read with its last sector awaited: a format record that is read and one that is not, headers of
no entry and of four; a third uncorrectable attempt, and one in another sector; a sector that may be read again; a
read that the hold ends. -/
theorem witness_ControlReadsServeTheMount :
    let format := (formatImage 1 [⟨4, 6000, 40⟩, ⟨6004, 5000, 34⟩, ⟨11004, 4000, 27⟩] 516000 2000)
    let header (l : ReplacementList) := (listImage l).getD 0 []
    let t : Target := ⟨1, 1, .awaiting, true, 2⟩
    let run (first : Stage) : Run := ⟨1, [⟨0, 0, first, true, 3⟩, t], .control⟩
    let retry : Run := ⟨1, [⟨0, 0, .bad, true, 2⟩, t], .control⟩
    let reading (c : ControlRead) (first : Stage) : State := worked.setHead
      { Head.reset with task := .controlRead c, activity := .inPass, pass := .read, run := some (run first) }
    let hold := worked.setHead
      { Head.reset with task := .controlRead .extents, activity := .holding, run := some (run .toAct) }
    (worked.held = false ∧ worked.drive.facts = readyDrive.facts) ∧
      (∀ c ∈ [ControlRead.format, .listHeader, .listEntries, .extents], ∀ first ∈ [Stage.good, .bad],
        let s := reading c first
        s.head.task = .controlRead c ∧ s.head.run = some (run first) ∧ (run first).work = .control ∧
          InPass s .read (run first) ∧ LastAwaited (run first) [⟨0, 0, first, true, 3⟩] t [] ∧
          ∀ x ∈ [(⟨0, 0, first, true, 3⟩ : Target)] ++ [], ¬ Retried x) ∧
      (readFormat (sectorData 0 [(0, format)]) = readyDrive.facts ∧
        readFormat (sectorData 0 [(0, zeroBlock)]) = none) ∧
      (headerCount (sectorData 0 [(0, zeroBlock)]) = none ∧
        headerCount (sectorData 0 [(0, header ⟨true, [], 0, true, false⟩)]) = some 0 ∧
        headerCount (sectorData 0 [(0, header worked.list)]) = some 4) ∧
      (2 ≤ t.attempts ∧ ReadResult.delivered zeroBlock 0 ≠ .uncorrectable) ∧
      (InPass (worked.setHead { (reading .listEntries .bad).head with run := some retry }) .read retry ∧
        LastAwaited retry [⟨0, 0, .bad, true, 2⟩] t [] ∧ ∃ x ∈ [(⟨0, 0, .bad, true, 2⟩ : Target)] ++ [], Retried x) ∧
      (hold.head.task = .controlRead .extents ∧ HeadFails hold .holdTimeout .spindle hold) := by
  unfold InPass LastAwaited Retried
  dsimp only
  refine ⟨?_, ?_, ?_, ?_, ?_, ?_, rfl, .inr (.inr (.inl ⟨rfl, rfl, rfl, rfl⟩))⟩ <;> decide +kernel

theorem witness_SeeksCompleteOrAreIssuedAgain :
    let s := atTag70 .seeking .erase [.toAct] .full
    let met := s.setHead { s.head with bias := .erase, seekIssues := 1 }
    let slow := (met.setDrive { readyDrive with speed := .offSpeed })
    let again := s.setHead { s.head with seekIssues := 2 }
    (worked.held = false ∧ worked.head.activity ≠ .seeking) ∧
      (met.held = false ∧ met.head.activity = .seeking ∧ met.head.run = some (runA [.toAct]) ∧
        BiasMet met ∧ met.drive.speed = .inSpeed) ∧
      (BiasMet slow ∧ slow.head.pass.gated = true ∧ slow.drive.speed = .offSpeed) ∧
      (s.passBias = some .erase ∧ s.head.bias ≠ .erase) ∧ met.head.seekIssues = 1 ∧
      (again.head.activity = .seeking ∧ again.head.seekIssues = 2 ∧ Serves served70 again) := by
  unfold Serves BiasMet
  decide +kernel

theorem witness_BiasSwitchesCompleteOrFail :
    let s := atTag70 .biasing .erase [.toAct] .full
    let switching := s.setHead { s.head with bias := .switching }
    (worked.held = false ∧ worked.head.activity ≠ .biasing) ∧
      (switching.held = false ∧ switching.head.activity = .biasing ∧
        switching.head.bias = .switching ∧ switching.passBias = some .erase) ∧
      Serves served70 switching := by
  unfold Serves
  decide +kernel

/-- Tag 70, and a FETCH item with a delivered block still unsent. -/
theorem witness_HoldsAndMissingSectorsEndTheItem :
    let holding := atTag70 .holding .erase [.toAct] .full
    let s := atTag70 .inPass .erase [.good, .toAct] .full
    let overdue := s.setHead { s.head with revs := 4 }
    let fetch : WorkItem := { item 0 (.tag 1) .fetch 5 0 2 with blocksDone := 1, state := .inService }
    let delivering := { holding with queue := [fetch] }
    (worked.held = false ∧ worked.head.activity ≠ .holding) ∧ s.head.revs ≠ 4 ∧
      (holding.held = false ∧ holding.head.activity = .holding ∧ Serves served70 holding) ∧
      (Serves fetch delivering ∧ fetch.kind = .fetch ∧ fetch.sent < fetch.blocksDone) ∧
      (overdue.head.activity = .inPass ∧ overdue.head.revs = 4 ∧
        (∃ t ∈ overdue.head.targets, t.seen = false) ∧ Serves served70 overdue) := by
  unfold Serves
  decide +kernel

/-- Tag 70's pass, to be begun and begun, in each kind of pass, with two targets and with one; a wrong track in both;
and the write pass of a STORE about to begin. -/
theorem witness_SectorIdArrivalsDriveThePass :
    let one (act : Activity) (p : PassKind) (stages : List Stage) (b : Bias) : State :=
      let u := atTag70 act p stages .full
      u.setHead { u.head with bias := b, later := [.write] }
    let need (p : PassKind) : Bias := if p = .erase then .erase else .write
    let at' (act : Activity) (p : PassKind) := one act p [.toAct, .toAct] (need p)
    let start := at' .awaitingStart .erase
    let wrong (s : State) := s.setHead { s.head with wrongTracks := 1 }
    let pass := at' .inPass .erase
    let r := runA [.toAct, .toAct]
    let dealt := runA [.good, .toAct]
    (worked.held = false ∧ worked.head.activity ≠ .awaitingStart ∧ worked.head.activity ≠ .inPass) ∧
      (start.held = false ∧ start.head.run = some r ∧ start.head.activity = .awaitingStart ∧
        6580 ≠ r.track ∧ start.head.wrongTracks = 0) ∧
      ((wrong start).head.wrongTracks ≠ 0 ∧ Serves served70 (wrong start)) ∧
      (pass.head.wrongTracks = 0 ∧ (wrong pass).head.activity = .inPass ∧
        (wrong pass).passOverdue = false ∧ Serves served70 (wrong pass)) ∧
      (start.head.pass.gated = true ∧
        (start.setDrive { readyDrive with speed := .offSpeed }).drive.speed = .offSpeed) ∧
      (∀ act ∈ [Activity.awaitingStart, .inPass], ∀ p ∈ [PassKind.erase, .write, .verify, .read, .blankCheck],
        (at' act p).head.run = some r ∧ ArrivalCounts (at' act p) ∧ (at' act p).head.pass = p ∧
          (at' act p).head.later ≠ [] ∧
          (one act p [.toAct] (need p)).head.run = some (runA [.toAct]) ∧
          ArrivalCounts (one act p [.toAct] (need p))) ∧
      (6581 = r.track ∧ (∀ x ∈ r.targets, x.sector ≠ 33) ∧
        (dealt.targets = [] ++ ⟨0, 0, .good, true, 0⟩ :: [freshTarget 1 1]) ∧
        r.targets = [freshTarget 0 0] ++ freshTarget 1 1 :: [] ∧ (freshTarget 1 1).stage = .toAct ∧
        (freshTarget 0 0).stage = .toAct ∧ (freshTarget 0 0).sector < (freshTarget 1 1).sector) ∧
      NextToAct r [] (freshTarget 0 0) [freshTarget 1 1] ∧
      NextToAct (runA [.toAct]) [] (freshTarget 0 0) [] := by
  unfold Serves ArrivalCounts BiasMet NextToAct
  dsimp only
  refine ⟨?_, ?_, ?_, ?_, ?_, ?_, ?_, ?_, ?_⟩ <;> decide +kernel

/-- Tag 70, or a BLANK item in its place, at the last target of two in the pass, and at its one target as it begins, in
each kind of pass; the same with a target to come; the check of a spare that has just been allocated for block 1, and
the write pass of that rewrite; and the write pass of a STORE as it begins. -/
theorem witness_PassesEndAndTheRunGoesOn :
    let two := runA [.good, .toAct]
    let done : Target := ⟨0, 0, .good, true, 0⟩
    let need (p : PassKind) : Bias := if p = .erase then .erase else .write
    let s (first : Bool) (p : PassKind) (later : List PassKind) : State :=
      let u := if first then atTag70 .awaitingStart p [.toAct] .full
        else atTag70 .inPass p [.good, .toAct] .full
      u.setHead { u.head with later := later, bias := need p }
    let blank : WorkItem := { item 0 (.tag 70) .blank 5 10018 5 with state := .inService }
    let blanking (later : List PassKind) : State := { s false .blankCheck later with queue := [blank] }
    let begun := { atTag70 .inPass .blankCheck [.toAct, .toAct] .full with queue := [blank] }
    let spare : Run := ⟨14930, [⟨9, 1, .toAct, false, 0⟩], .rewrite⟩
    let rewriting (p : PassKind) : State :=
      let u := atTag70 .awaitingStart p [.toAct] .written
      u.setHead { u.head with run := some spare, failing := [1], later := [.verify] }
    let store : Run := ⟨2, [⟨0, 0, .toAct, false, 0⟩], .store⟩
    let storing := (rewriting .write).setHead { (rewriting .write).head with run := some store }
    let mine (x : Slot) : Prop := x.holder = some served70.id ∧ ∃ y ∈ spare.targets, y.block = x.block
    ((s false .erase [.write]).held = false ∧ NextToAct two [done] (freshTarget 1 1) [] ∧
        done.stage = .good ∧ NextToAct (runA [.toAct]) [] (freshTarget 0 0) []) ∧
      (∀ p ∈ [PassKind.erase, .write, .blankCheck], ∀ later ∈ [[], [PassKind.verify]],
        ((s false p later).head.run = some two ∧ ArrivalCounts (s false p later) ∧
          (s false p later).head.pass = p ∧ (s false p later).head.later = later) ∧
        ((s true p later).head.run = some (runA [.toAct]) ∧ ArrivalCounts (s true p later) ∧
          (s true p later).head.pass = p ∧ (s true p later).head.later = later)) ∧
      (storing.head.run = some store ∧ store.work ≠ .blocks ∧ store.work ≠ .rewrite ∧
        ArrivalCounts storing ∧ storing.head.pass = .write ∧ storing.head.begun = false ∧
        storing.head.later = [.verify] ∧ NextToAct store [] ⟨0, 0, .toAct, false, 0⟩ []) ∧
      (∀ x ∈ (s false .write []).slots, mine x → x.state = .full) ∧
      ((rewriting .write).head.run = some spare ∧ ArrivalCounts (rewriting .write) ∧
        (rewriting .write).queue = served70 :: [] ∧
        ∀ x ∈ (rewriting .write).slots, mine x → x.state = .written) ∧
      ((s false .write []).head.task = .item ∧ (s false .write []).queue = served70 :: [] ∧
        served70.kind = .place ∧ served70.extent = some 5 ∧ served70.first = some 10018 ∧
        (s false .write []).drive.facts = readyDrive.facts) ∧
      ((blanking []).queue = blank :: [] ∧ blank.kind = .blank ∧ blank.extent = some 5 ∧
        (blanking []).drive.facts.isSome = true ∧ Serves blank (blanking []) ∧ two.work = .blocks ∧
        Serves served70 (s false .blankCheck [.write])) ∧
      (begun.head.run = some (runA [.toAct, .toAct]) ∧ begun.head.later = [] ∧
        NextToAct (runA [.toAct, .toAct]) [] (freshTarget 0 0) (freshTarget 1 1 :: [])) ∧
      ((rewriting .blankCheck).head.run = some spare ∧ ArrivalCounts (rewriting .blankCheck) ∧
        NextToAct spare [] ⟨9, 1, .toAct, false, 0⟩ [] ∧
        (rewriting .blankCheck).head.failing = 1 :: [] ∧ (rewriting .blankCheck).head.task = .item) := by
  unfold Serves ArrivalCounts BiasMet NextToAct
  dsimp only
  refine ⟨?_, ?_, ?_, ?_, ?_, ?_, ?_, ?_, ?_⟩ <;> decide +kernel

/-- Two targets, the first awaiting its result and the second to be acted on, or awaiting its own: of a verify pass, a
read pass of blocks and a control read. -/
theorem witness_ResultsGoToTheTargetThatAwaitsThem :
    let verify := atTag70 .inPass .verify [.awaiting, .toAct] .written
    let fetch : WorkItem := item 0 (.tag 1) .fetch 5 10018 2
    let read := (serving fetch .inPass .read (some (runA [.awaiting, .toAct])) worked).setSlots
      (slotsFrom 0 0 [.reading, .reading])
    let control : Run := ⟨1, (runA [.awaiting, .toAct]).targets, .control⟩
    (worked.held = false ∧ ∀ r', worked.head.run = some r' → r'.track = 0 →
      ∀ x ∈ r'.targets, x.sector = 0 → x.stage ≠ .awaiting) ∧
      (verify.held = false ∧ verify.head.run = some (runA [.awaiting, .toAct]) ∧
        verify.head.activity = .inPass ∧ verify.passOverdue = false ∧
        (runA [.awaiting, .toAct]).targets = [] ++ ⟨0, 0, .awaiting, true, 0⟩ :: [freshTarget 1 1] ∧
        (∀ x ∈ [] ++ [freshTarget 1 1], x.sector ≠ 0) ∧ (freshTarget 1 1).stage = .toAct ∧
        verify.head.pass = .verify) ∧
      (read.head.pass = .read ∧ (runA [.awaiting, .toAct]).work = .blocks ∧
        read.queue = { fetch with state := .inService } :: [] ∧ fetch.extent = some 5 ∧
        fetch.blocksDone ≤ fetch.count) ∧
      control.work = .control ∧
      (let overdue := verify.setHead { verify.head with revs := 4 }
       overdue.passOverdue = true ∧ overdue.held = false ∧ worked.head.activity ≠ .inPass) ∧
      (runA [.awaiting, .awaiting]).targets = [] ++ ⟨0, 0, .awaiting, true, 0⟩ :: [⟨1, 1, .awaiting, true, 0⟩] := by
  refine ⟨⟨rfl, fun r h => (nomatch h)⟩, ?_, ?_, rfl, ?_, rfl⟩ <;> decide

/-- The last result of a round, with the attempts and stages that lead each way. -/
theorem witness_ReadRoundsEnd :
    let t (n : Nat) : Target := ⟨1, 1, .awaiting, true, n⟩
    let first (st : Stage) (n : Nat) : Target := ⟨0, 0, st, true, n⟩
    let run (st : Stage) (m n : Nat) : Run := ⟨6581, [first st m, t n], .blocks⟩
    let fetch : WorkItem := { item 0 (.tag 1) .fetch 5 10018 2 with state := .inService }
    let s (r : Run) : State := (serving fetch .inPass .read (some r) worked).setSlots
      (slotsFrom 0 0 [.ready, .reading])
    let ends (st : Stage) (m n : Nat) : Prop := InPass (s (run st m n)) .read (run st m n) ∧
      LastAwaited (run st m n) [first st m] (t n) []
    (worked.held = false ∧ Serves fetch (s (run .good 0 0)) ∧ fetch.kind = .fetch ∧
      fetch.extent = some 5 ∧ fetch.blocksDone ≤ fetch.count ∧
      (s (run .good 0 0)).queue = fetch :: [] ∧ (s (run .good 0 0)).drive.facts.isSome = true) ∧
      (ends .good 0 1 ∧ Retried { t 1 with stage := .bad, attempts := 2 }) ∧
      (ends .good 0 2 ∧ ¬ Retried { t 2 with stage := .bad, attempts := 3 }) ∧
      (ends .bad 2 0 ∧ Retried (first .bad 2)) ∧ (ends .bad 3 0 ∧ ¬ Retried (first .bad 3)) ∧
      ends .good 0 0 ∧
      (∀ i ∈ [Instr.readDataEvent 6581 1 .uncorrectable, .sectorIdArrival 6581 1 true],
        ResultFails (.readDataEvent 6581 1 .uncorrectable) (run .good 0 2) (t 2) i) := by
  unfold InPass LastAwaited Serves Retried
  dsimp only
  refine ⟨?_, ?_, ?_, ?_, ?_, ?_, ?_⟩
  iterate 6 decide +kernel
  simp [ResultFails]

/-- Three targets of tag 70, with none failing and with the second failing; a rewrite of block 1 alone, and with
block 3 failing too; and an allocation that succeeds, one that fails, and the fourth. -/
theorem witness_AVerifyResultCompletesOrReplacesTheBlock :
    let t : Target := ⟨2, 2, .awaiting, true, 0⟩
    let two (st : Stage) : List Target := [⟨0, 0, .good, true, 0⟩, ⟨1, 1, st, true, 0⟩]
    let run (st : Stage) : Run := ⟨6581, two st ++ [t], .blocks⟩
    let s (r : Run) : State := serving tag70 .inPass .verify (some r) worked
    let again : Run := ⟨14930, [⟨9, 1, .awaiting, true, 0⟩], .rewrite⟩
    let rewriting (ks ms : List Nat) : State :=
      (s again).setHead { (s again).head with failing := ks, matched := ms }
    let spent := worked.setList { worked.list with next := 2000 }
    ((s (run .good)).held = false ∧ (s (run .good)).head.task = .item ∧
      (s (run .good)).queue = served70 :: [] ∧ served70.kind = .place ∧ served70.extent = some 5 ∧
      served70.first = some 10018 ∧ (s (run .good)).drive.facts = readyDrive.facts) ∧
      (∀ st ∈ [Stage.good, .bad], InPass (s (run st)) .verify (run st) ∧
        LastAwaited (run st) (two st) t [] ∧ (run st).work = .blocks) ∧
      (InPass (rewriting [1] []) .verify again ∧ again.work = .rewrite ∧
        LastAwaited again [] ⟨9, 1, .awaiting, true, 0⟩ [] ∧ (rewriting [1] [2]).head.failing = [1] ∧
        (rewriting [1, 3] [2, 4]).head.failing = 1 :: 3 :: []) ∧
      ((rewriting [1] []).head.relocations ≠ 3 ∧
        allocate 2000 ((spent.entry 5).psa 10020) spent.list = .failed .noSpare ∧
        (s (run .bad)).profile.listUpdate = .deferred ∧
        allocate 2000 ((worked.entry 5).psa 10020) worked.list = .spare { worked.list with
          entries := [⟨12040, 0⟩, ⟨259600, 6⟩, ⟨259603, 10⟩, ⟨259620, 11⟩, ⟨301117, 2⟩]
          next := 12 } ∧
        locate [⟨4, 6000, 40⟩, ⟨6004, 5000, 34⟩, ⟨11004, 4000, 27⟩] (516000 + worked.list.next) =
          some ⟨2, 14930, 9⟩) ∧
      ResultFails (.verifyCompareResult 6581 2 false) (run .good) t (.sectorIdArrival 6581 2 true) := by
  unfold InPass LastAwaited
  dsimp only
  refine ⟨?_, ?_, ?_, ?_, .inr ⟨true, rfl⟩⟩ <;> decide +kernel

/-- A WAITING item, one the head waits for, one without credit, and the item that the head serves. -/
theorem witness_DataFramesFillSlotsInOrder :
    let it : WorkItem := { item 0 (.tag 1) .place 5 0 2 with given := 2 }
    let s := { worked with queue := [it], slots := slotsFrom 0 0 [.full, .awaiting] }
    let waits := ((serving it .waitingData .erase none worked).setDataTimer (some 0)).setSlots
      (slotsFrom 0 0 [.awaiting, .awaiting])
    let now : WorkItem := { it with state := .inService }
    let bare : WorkItem := { it with given := 0 }
    (worked.held = false ∧ (List.replicate 1024 (7 : Byte)).length = 1024 ∧
      ∀ x ∈ s.queue, x.route = .lane 9 → s.awaitingData x = false) ∧
      (s.queue = [] ++ it :: [] ∧ it.route = .tag 1 ∧ it.kind = .place ∧ 1 < it.count ∧
        slotState it.id 1 s.slots = .awaiting ∧ (∀ j < 1, slotState it.id j s.slots ≠ .awaiting) ∧
        (it.frameBase + 1) % 65536 = (1#16 : Word16).toNat ∧ s.head.activity ≠ .waitingData) ∧
      (waits.head.task = .item ∧ waits.head.activity = .waitingData ∧ now.state = .inService ∧
        now.blocksDone = 0 ∧ waits.queue = [] ++ now :: [] ∧
        slotState now.id 0 waits.slots = .awaiting ∧ (now.frameBase + 0) % 65536 = (0#16 : Word16).toNat ∧
        waits.drive.facts = readyDrive.facts ∧ (waits.itemPlace now 0).isSome = true) ∧
      (it.frameBase + 1) % 65536 ≠ (0#16 : Word16).toNat ∧
      (bare.given < bare.count ∧ ∀ k < bare.count, slotState bare.id k worked.slots ≠ .awaiting) ∧
      s.dataTimer = none ∧ (waits.dataTimer = some 0 ∧ waits.queue = now :: []) := by
  decide +kernel

/-- A READY lowest block, free to go and with a data frame behind the front one; a SENDING one; and the last block
of an ended FETCH. -/
theorem witness_ReadBlocksLeaveInBlockOrder :
    let it : WorkItem := { item 0 (.tag 1) .fetch 5 0 2 with given := 2, blocksDone := 1 }
    let ended : WorkItem := { it with ended := some (.readFailed, .none), state := .delivering }
    let ready := { worked with queue := [it], slots := slotsFrom 0 0 [.ready, .reading] }
    let sending := { worked with queue := [it], slots := slotsFrom 0 0 [.sending, .reading] }
    let crowded := ready.setOutbound [.data 7 0 [], .data 7 1 []]
    (ready.held = false ∧ ready.queue = it :: [] ∧ it.kind = .fetch ∧ it.route = .tag 1 ∧
      slotState it.id it.sent ready.slots = .ready ∧ ready.outbound.tail = [] ∧
      ∀ x ∈ ready.slots, x.state ≠ .sending) ∧
      (crowded.queue = it :: [] ∧ crowded.outbound.tail = [.data 7 1 []]) ∧
      (∃ x ∈ sending.slots, x.state = .sending) ∧
      slotState it.id it.sent ready.slots ≠ .sending ∧
      (slotState it.id it.sent sending.slots = .sending ∧ it.ended = none) ∧
      (ended.ended = some (.readFailed, .none) ∧ ended.sent + 1 = ended.blocksDone) := by decide +kernel

end Sys2Proof.Tests
end

section
/-! Address resolution and the tables shown and loaded (O25, O26, O28). -/

namespace Sys2Proof.Machine

open Sys2Proof.Safety

/-! ### The link tests -/

/-- With its length and class in order an order reaches the block that owns it (R166). -/
theorem State.handOver_passes (kind cls tag : Byte) (lengthOk service : Bool) (owner : State → State)
    (s : State) (len : lengthOk = true) (cl : service = true → cls.getLsbD 0 = true) :
    s.handOver kind cls tag lengthOk service owner = owner s := by
  rw [State.handOver_cases, if_neg (by simp [len])]
  exact if_neg fun ⟨isService, ordinary⟩ => Bool.noConfusion ((cl isService).symm.trans ordinary)

/-! ### Ranges, chunks and parameters -/

theorem rangeOk_iff (size f k : Nat) :
    rangeOk size f k = true ↔ 1 ≤ k ∧ k ≤ size ∧ f + k ≤ size := by
  simp [rangeOk, and_assoc]

theorem field_third (a b c : Byte) (bs : List Byte) : field (a :: b :: c :: bs) 2 1 = c.toNat := by
  simp [field, ofBytes]

theorem field_second (a b : Byte) (bs : List Byte) : field (a :: b :: bs) 1 1 = b.toNat := by
  simp [field, ofBytes]

theorem chunks_getElem? (n k : Nat) (bs : List Byte) (i : Nat) (h : i < k) :
    (chunks n k bs)[i]? = some ((bs.drop (n * i)).take n) := by
  induction k generalizing bs i with
  | zero => omega
  | succ k ih =>
    cases i with
    | zero => simp [chunks]
    | succ i =>
      have tail := ih (bs.drop n) i (by omega)
      simpa [chunks, List.drop_drop, Nat.mul_succ, Nat.add_comm] using tail

/-- The length test of a loading order asks for the entries that its count byte gives (R166, R170). -/
theorem loadLengthOk_of_length (entry : Nat) (f k : Byte) (bs : List Byte)
    (h : bs.length = entry * k.toNat) : loadLengthOk entry (f :: k :: bs) = true := by
  simp [loadLengthOk, h]; omega

/-! ### References (R19) -/

theorem LaneState.runs_iff (l : LaneState) : l.runs = true ↔ l = .active ∨ l = .draining := by
  cases l <;> simp [LaneState.runs]

theorem State.referenced_iff (s : State) (e : Nat) : s.referenced e = true ↔ Referenced s e := by
  simp [State.referenced, Referenced, LaneState.runs_iff]

/-! ### Entries applied one after another (R31, R135) -/

section Apply

variable {α : Type} (heldAt : Nat → Bool) (f : Nat) (es table : List α)

theorem applyEntries_count_le : (applyEntries heldAt f es table).2 ≤ es.length := by
  fun_induction applyEntries heldAt f es table with
  | case1 => simp
  | case2 => simp
  | case3 f e es table free after ih => simpa using ih

theorem applyEntries_length : (applyEntries heldAt f es table).1.length = table.length := by
  fun_induction applyEntries heldAt f es table with
  | case1 => rfl
  | case2 => rfl
  | case3 f e es table free after ih => simpa using ih

/-- No entry that was applied is held. -/
theorem applyEntries_free (i : Nat) (h : i < (applyEntries heldAt f es table).2) :
    heldAt (f + i) = false := by
  fun_induction applyEntries heldAt f es table generalizing i with
  | case1 => simp at h
  | case2 => simp at h
  | case3 f e es table free after ih =>
    cases i with
    | zero => simpa using free
    | succ i => exact Nat.succ_add_eq_add_succ f i ▸ ih i (Nat.lt_of_succ_lt_succ h)

/-- The application stops only at an entry that is held. -/
theorem applyEntries_stops (h : (applyEntries heldAt f es table).2 < es.length) :
    heldAt (f + (applyEntries heldAt f es table).2) = true := by
  fun_induction applyEntries heldAt f es table with
  | case1 => simp at h
  | case2 f e es table held => exact held
  | case3 f e es table free after ih =>
    have shift : f + (after.2 + 1) = f + 1 + after.2 := (Nat.succ_add_eq_add_succ f _).symm
    exact (congrArg heldAt shift).trans (ih (Nat.lt_of_succ_lt_succ h))

/-- Entries below the first one and from the stop on keep their contents. -/
theorem applyEntries_keeps (i : Nat) (h : i < f ∨ f + (applyEntries heldAt f es table).2 ≤ i) :
    (applyEntries heldAt f es table).1[i]? = table[i]? := by
  fun_induction applyEntries heldAt f es table with
  | case1 => rfl
  | case2 => rfl
  | case3 f e es table free after ih =>
    have outside : i < f ∨ f + (after.2 + 1) ≤ i := h
    calc after.1[i]?
      _ = (table.set f e)[i]? := ih (show i < f + 1 ∨ f + 1 + after.2 ≤ i by omega)
      _ = table[i]? := List.getElem?_set_ne (by omega)

/-- Every applied entry of the table holds the value supplied for it. -/
theorem applyEntries_applied (fit : f + es.length ≤ table.length) (i : Nat)
    (h : i < (applyEntries heldAt f es table).2) :
    (applyEntries heldAt f es table).1[f + i]? = es[i]? := by
  fun_induction applyEntries heldAt f es table generalizing i with
  | case1 => simp at h
  | case2 => simp at h
  | case3 f e es table free after ih =>
    rw [List.length_cons] at fit
    cases i with
    | zero =>
      calc after.1[f]?
        _ = (table.set f e)[f]? := applyEntries_keeps _ _ _ _ f (.inl (Nat.lt_succ_self f))
        _ = some e := List.getElem?_set_self (by omega)
    | succ i =>
      have fit' : f + 1 + es.length ≤ (table.set f e).length := by rw [List.length_set]; omega
      calc after.1[f + (i + 1)]?
        _ = after.1[f + 1 + i]? := by rw [Nat.succ_add_eq_add_succ]
        _ = es[i]? := ih fit' i (Nat.lt_of_succ_lt_succ h)

end Apply

/-! ### The table orders past the link tests -/

theorem State.showExtentsOrder_eq (c tag f k : Byte) (s : State) :
    s.showExtentsOrder c tag [f, k] = reports s
      [if 1 ≤ k.toNat ∧ k.toNat ≤ 48 ∧ f.toNat + k.toNat ≤ 48 then
        .answer Kind.showExtents tag .ok
          (.extents f.toNat k.toNat ((s.extents.drop f.toNat).take k.toNat))
      else .answer Kind.showExtents tag .badCount .none] := by
  rw [State.showExtentsOrder, State.handOver_passes]
  case len => rfl
  case cl => nofun
  simp only [field_one, field_second, rangeOk_iff, Config.extentEntries]
  split <;> rfl

theorem State.showDescriptorsOrder_eq (c tag g k : Byte) (s : State) :
    s.showDescriptorsOrder c tag [g, k] = reports s
      [if 1 ≤ k.toNat ∧ k.toNat ≤ 32 ∧ g.toNat + k.toNat ≤ 32 then
        .answer Kind.showDescriptors tag .ok
          (.descriptors g.toNat k.toNat ((s.descriptors.drop g.toNat).take k.toNat))
      else .answer Kind.showDescriptors tag .badCount .none] := by
  rw [State.showDescriptorsOrder, State.handOver_passes]
  case len => rfl
  case cl => nofun
  simp only [field_one, field_second, rangeOk_iff, Config.descriptors]
  split <;> rfl

theorem State.showListOrder_eq (c tag i1 i0 k : Byte) (s : State) :
    s.showListOrder c tag [i1, i0, k] = reports s
      [if ¬ (1 ≤ k.toNat ∧ k.toNat ≤ 64 ∧ 256 * i1.toNat + i0.toNat ≤ 1023) then
        .answer Kind.showList tag .badCount .none
      else if s.list.loaded = false then .answer Kind.showList tag .noMedia .none
      else .answer Kind.showList tag .ok
        (.list s.list.entries.length s.list.next ((s.drive.facts.map Facts.spares).getD 0)
          ((s.drive.facts.map Facts.users).getD 0) s.list.dirty
          ((s.list.entries.drop (256 * i1.toNat + i0.toNat)).take k.toNat))] := by
  rw [State.showListOrder, State.handOver_passes]
  case len => rfl
  case cl => nofun
  simp only [field_two, field_third, Nat.mul_comm i1.toNat]
  split
  · rfl
  · cases s.list.loaded <;> rfl

/-- LOAD EXTENTS of the length that its count asks for, in service class (R166). -/
theorem State.loadExtentsOrder_eq (c tag f k : Byte) (es : List Byte) (s : State)
    (service : c.getLsbD 0 = true) (len : es.length = 8 * k.toNat) :
    s.loadExtentsOrder c tag (f :: k :: es) =
      s.loadExtents tag f.toNat ((chunks 8 k.toNat es).map extentOfBytes) := by
  rw [State.loadExtentsOrder, State.handOver_passes]
  case len => exact loadLengthOk_of_length 8 f k es len
  case cl => exact fun _ => service
  simp only [field_one, field_second, List.drop_succ_cons, List.drop_zero]

theorem State.loadExtents_badCount (tag : Byte) (f : Nat) (es : List Extent) (s : State)
    (outside : ¬ (1 ≤ es.length ∧ es.length ≤ 48 ∧ f + es.length ≤ 48)) :
    s.loadExtents tag f es = reports s [.answer Kind.loadExtents tag .badCount .none] :=
  if_neg (mt (rangeOk_iff _ _ _).mp outside)

theorem State.loadExtents_inside (tag : Byte) (f : Nat) (es : List Extent) (s : State)
    (inside : 1 ≤ es.length ∧ es.length ≤ 48 ∧ f + es.length ≤ 48) :
    s.loadExtents tag f es =
      let applied := applyEntries s.referenced f es s.extents
      reports (s.setExtents applied.1)
        [.answer Kind.loadExtents tag (if applied.2 = es.length then .ok else .inUse)
          (.count applied.2)] :=
  if_pos ((rangeOk_iff _ _ _).mpr inside)

/-! ### The legal offsets of an entry (R18) -/

theorem Extent.limit_le (e : Extent) : e.limit.toNat ≤ 1023 := Nat.le_of_lt_succ e.limit.isLt

theorem Extent.low_ascending (e : Extent) (up : e.ds = false) : e.low = 0 := by
  simp [Extent.low, up]

theorem Extent.high_ascending (e : Extent) (up : e.ds = false) :
    e.high = 64 * e.limit.toNat + 63 := by
  simp [Extent.high, up, Config.granule]

theorem Extent.low_descending (e : Extent) (down : e.ds = true) :
    e.low = 64 * (1023 - e.limit.toNat) := by
  simp [Extent.low, down, Config.granule, Config.topLimit]

theorem Extent.high_descending (e : Extent) (down : e.ds = true) : e.high = 65535 := by
  simp [Extent.high, down, Config.topOffset]

theorem Extent.psa_eq (e : Extent) (o : Nat) : e.psa o = 64 * e.base.toNat + (o - e.low) := rfl

/-- In either direction the legal offsets are the 64 of each of the L + 1 granules. -/
theorem Extent.high_succ (e : Extent) : e.high + 1 = e.low + 64 * (e.limit.toNat + 1) := by
  have top := e.limit_le
  cases dir : e.ds with
  | false => rw [e.low_ascending dir, e.high_ascending dir]; omega
  | true => rw [e.low_descending dir, e.high_descending dir]; omega

end Sys2Proof.Machine

section

open Sys2Proof Sys2Proof.Machine Sys2Proof.Safety

/-- Settles O25: each of the three orders passes the link tests and answers by the range test. -/
theorem tablesAreShownAsTheyStand : Obligations.TablesAreShownAsTheyStand := by
  refine ⟨fun c tag f k s free => ?_, fun c tag i1 i0 k s free => ?_, fun c tag g k s free => ?_⟩
  · exact (s.takeFrame_free _ free).trans (congrArg _ ((taken s).showExtentsOrder_eq c tag f k))
  · exact (s.takeFrame_free _ free).trans (congrArg _ ((taken s).showListOrder_eq c tag i1 i0 k))
  · exact (s.takeFrame_free _ free).trans (congrArg _ ((taken s).showDescriptorsOrder_eq c tag g k))

/-- Settles O26: `j` and the table are what `applyEntries` answers for the supplied entries. -/
theorem loadExtentsStopsAtAReferencedEntry : Obligations.LoadExtentsStopsAtAReferencedEntry := by
  intro c tag f k es s free service len size
  let supplied := (chunks 8 k.toNat es).map extentOfBytes
  have count : supplied.length = k.toNat := by simp [supplied]
  have runs : exec (.loadExtents c tag (f :: k :: es)) s =
      .next ((taken s).loadExtents tag f.toNat supplied) :=
    (s.takeFrame_free _ free).trans
      (congrArg _ ((taken s).loadExtentsOrder_eq c tag f k es service len))
  rw [runs, ← count]
  refine ⟨fun outside => congrArg _ (State.loadExtents_badCount _ _ _ _ outside), fun inside => ?_⟩
  let applied := applyEntries s.referenced f.toNat supplied s.extents
  refine ⟨applied.2, applied.1, applyEntries_count_le _ _ _ _, fun i below => ?_, fun stopped => ?_,
    (applyEntries_length _ _ _ _).trans size, fun i below => ?_, applyEntries_keeps _ _ _ _,
    congrArg _ (State.loadExtents_inside _ _ _ _ inside)⟩
  · rw [← s.referenced_iff, applyEntries_free _ _ _ _ i below]
    exact Bool.false_ne_true
  · exact (s.referenced_iff _).mp (applyEntries_stops _ _ _ _ stopped)
  · have inRange : i < k.toNat := count ▸ Nat.lt_of_lt_of_le below (applyEntries_count_le _ _ _ _)
    have fit : f.toNat + supplied.length ≤ s.extents.length := by omega
    calc applied.1[f.toNat + i]?
      _ = supplied[i]? := applyEntries_applied _ _ _ _ fit i below
      _ = some (extentOfBytes ((es.drop (8 * i)).take 8)) := by
        rw [List.getElem?_map, chunks_getElem? 8 _ es i inRange]; rfl

/-- Settles O28: `Extent.high_succ` bounds `o - e.low` for a legal offset. -/
theorem legalOffsetsMapIntoTheExtent : Obligations.LegalOffsetsMapIntoTheExtent := by
  intro e
  refine ⟨fun up => ⟨e.low_ascending up, e.high_ascending up⟩,
    fun down => ⟨e.low_descending down, e.high_descending down⟩, e.high_succ, fun o above below => ?_⟩
  have legal := e.high_succ
  rw [e.psa_eq]
  refine ⟨rfl, ?_, ?_⟩ <;> omega

end
end

section
/-! The fault record shown and cleared (O24). -/

namespace Sys2Proof.Machine

open Sys2Proof.Safety

/-! ### The refusals of the link tests -/

/-- The length is tested before the class (R166). -/
theorem State.handOver_badLength (kind cls tag : Byte) (service : Bool) (owner : State → State)
    (s : State) : s.handOver kind cls tag false service owner = s.refuse kind tag .badLength := by
  rw [State.handOver_cases, if_pos rfl]

/-- A service order of the right length in ordinary class is refused (R166). -/
theorem State.handOver_ordinary (kind cls tag : Byte) (owner : State → State) (s : State)
    (ordinary : cls.getLsbD 0 = false) :
    s.handOver kind cls tag true true owner = s.refuse kind tag .cls := by
  rw [State.handOver_cases, if_neg Bool.noConfusion, if_pos ⟨rfl, ordinary⟩]

theorem State.refuse_eq (kind tag : Byte) (code : Code) (s : State) :
    s.refuse kind tag code = reports s [.answer kind tag code .none] := rfl

/-! ### The two orders past the link tests -/

theorem State.showFaultOrder_eq (c tag : Byte) (s : State) :
    s.showFaultOrder c tag [] =
      reports s [.answer Kind.showFault tag .ok (.fault s.fault)] := by
  rw [State.showFaultOrder, State.handOver_passes]
  case len => rfl
  case cl => nofun
  rfl

theorem State.clearFaultOrder_badLength (c tag : Byte) (p : List Byte) (s : State) (params : p ≠ []) :
    s.clearFaultOrder c tag p = reports s [.answer Kind.clearFault tag .badLength .none] := by
  have wrong : decide (p.length = 0) = false := decide_eq_false (mt List.length_eq_zero_iff.mp params)
  rw [State.clearFaultOrder, wrong, State.handOver_badLength, State.refuse_eq]

theorem State.clearFaultOrder_ordinary (c tag : Byte) (s : State) (ordinary : c.getLsbD 0 = false) :
    s.clearFaultOrder c tag [] = reports s [.answer Kind.clearFault tag .cls .none] :=
  State.handOver_ordinary _ _ _ _ _ ordinary

theorem State.clearFaultOrder_service (c tag : Byte) (s : State) (service : c.getLsbD 0 = true) :
    s.clearFaultOrder c tag [] =
      reports (s.setFault FaultRecord.empty) [.answer Kind.clearFault tag .ok (.fault s.fault)] := by
  rw [State.clearFaultOrder, State.handOver_passes]
  case len => rfl
  case cl => exact fun _ => service
  rfl

end Sys2Proof.Machine

section

open Sys2Proof Sys2Proof.Machine Sys2Proof.Safety

/-- Settles O24: a branch of the link tests for each refusal, then the unit's answer. -/
theorem theFaultRecordIsShownAndCleared : Obligations.TheFaultRecordIsShownAndCleared := by
  intro c tag p s free
  have clears (q : List Byte) :
      exec (.clearFault c tag q) s = .next ((taken s).clearFaultOrder c tag q) :=
    s.takeFrame_free _ free
  refine ⟨?shown, fun params => ?badLength, fun ordinary => ?cls, fun service => ?cleared⟩
  case shown =>
    exact (s.takeFrame_free _ free).trans (congrArg _ ((taken s).showFaultOrder_eq c tag))
  case badLength =>
    exact (clears p).trans (congrArg _ ((taken s).clearFaultOrder_badLength c tag p params))
  case cls => exact (clears []).trans (congrArg _ ((taken s).clearFaultOrder_ordinary c tag ordinary))
  case cleared =>
    exact (clears []).trans (congrArg _ ((taken s).clearFaultOrder_service c tag service))

end
end

section
/-! The laws that every step keeps: what each shared operation keeps of the fault record, the queue, the table sizes
and the waiting lanes. Inside an event a place may be free while a lane waits for it; the close of the event gives it
(R84). So an operation is said to `Keep` the laws but for that clause, and to `KeepAll` with it. -/

set_option Elab.async false

namespace Sys2Proof.Safety

open Sys2Proof.Machine

/-! ### The laws of the queue and of the record -/

theorem QueueLaw.sublist {p q : List WorkItem} (h : QueueLaw q) (sub : p.Sublist q) : QueueLaw p :=
  ⟨sub.length_le.trans h.1, fun it mem => h.2 it (sub.tail.subset mem)⟩

theorem FaultLaw.of_held {r : FaultRecord} (law : FaultLaw r) (held : r.captured ≠ none) :
    r.causes.any = true ∨ r.edge = true := by
  unfold FaultLaw at law
  split at law
  · contradiction
  · exact law

/-- A record that captures an access with a cause (R46). -/
theorem FaultLaw.capture {c : CauseSet} (a : Captured) (some : c.any = true) :
    FaultLaw ⟨c, false, false, false, .some a⟩ := .inl some

/-- A record that captures an edge event (R47). -/
theorem FaultLaw.captureEdge (a : Captured) : FaultLaw ⟨CauseSet.empty, true, false, false, some a⟩ := .inr rfl

theorem FaultLaw.overrun {r : FaultRecord} (held : r.captured ≠ none) (law : FaultLaw r) :
    FaultLaw { r with overrun := true } := by
  obtain ⟨a, captured⟩ := Option.ne_none_iff_exists'.mp held
  simpa [FaultLaw, captured] using law.of_held held

theorem FaultLaw.secondEdge {r : FaultRecord} (held : r.captured ≠ none) (law : FaultLaw r) :
    FaultLaw { r with secondEdge := true } := by
  obtain ⟨a, captured⟩ := Option.ne_none_iff_exists'.mp held
  simpa [FaultLaw, captured] using law.of_held held

end Sys2Proof.Safety

namespace Sys2Proof.Machine

open Sys2Proof.Safety

/-! ### The laws, and how they compose -/

/-- A lane waits for a place only while ACTIVE, and outstanding stops stand only on a DRAINING or HALTED one. -/
def LaneLaw (l : Lane) : Prop :=
  (l.pendingPost ≠ none → l.state = .active) ∧ (l.stops ≠ [] → l.state = .draining ∨ l.state = .halted)

/-- The law of the waiting lanes but for its clause on free places, which stands only between events. -/
def OpenLaw (s : State) : Prop :=
  (∀ n < 4, LaneLaw (s.lane n)) ∧ (s.queue.map WorkItem.id).Nodup ∧
    ∀ id ∈ s.queue.map WorkItem.id, id < s.nextId

/-- No lane waits while a place is free (R84). -/
def NoPlaceDue (s : State) : Prop := s.queue.length < 8 → ∀ n < 4, (s.lane n).pendingPost = none

theorem waitingLaw_iff (s : State) : WaitingLaw s ↔ OpenLaw s ∧ NoPlaceDue s := by
  simp only [WaitingLaw, PendingLaw, OpenLaw, LaneLaw, NoPlaceDue, List.mem_map, forall_exists_index, and_imp,
    forall_apply_eq_imp_iff₂]
  constructor
  · rintro ⟨pending, due, stops, distinct, used⟩
    exact ⟨⟨fun n hn => ⟨pending n hn, stops n hn⟩, distinct, used⟩, due⟩
  · rintro ⟨⟨lanes, distinct, used⟩, due⟩
    exact ⟨fun n hn => (lanes n hn).1, due, fun n hn => (lanes n hn).2, distinct, used⟩

/-- What leads from `s` to `t` keeps the laws, but may leave a place free that a lane waits for. -/
structure Keeps (s t : State) : Prop where
  fault : FaultLaw s.fault → FaultLaw t.fault
  queue : QueueLaw s.queue → QueueLaw t.queue
  shape : ShapeLaw s → ShapeLaw t
  lanes : OpenLaw s → OpenLaw t

/-- What leads from `s` to `t` keeps all four laws. -/
structure KeepsAll (s t : State) : Prop extends Keeps s t where
  waiting : WaitingLaw s → WaitingLaw t

theorem Keeps.trans {s t u : State} (h : Keeps s t) (k : Keeps t u) : Keeps s u :=
  ⟨k.fault ∘ h.fault, k.queue ∘ h.queue, k.shape ∘ h.shape, k.lanes ∘ h.lanes⟩

theorem KeepsAll.trans {s t u : State} (h : KeepsAll s t) (k : KeepsAll t u) : KeepsAll s u :=
  ⟨h.toKeeps.trans k.toKeeps, k.waiting ∘ h.waiting⟩

theorem keepsAll_refl (s : State) : KeepsAll s s := ⟨⟨id, id, id, id⟩, id⟩

theorem keeps_refl (s : State) : Keeps s s := (keepsAll_refl s).toKeeps

/-- A fold of steps that each keep the laws keeps them. -/
theorem keeps_foldl {α : Type} (g : State → α → State) (h : ∀ s a, Keeps s (g s a)) (as : List α) (s : State) :
    Keeps s (as.foldl g s) := by
  induction as generalizing s with
  | nil => exact keeps_refl s
  | cons a as ih => exact (h s a).trans (ih (g s a))

theorem keepsAll_foldl {α : Type} (g : State → α → State) (h : ∀ s a, KeepsAll s (g s a)) (as : List α)
    (s : State) : KeepsAll s (as.foldl g s) := by
  induction as generalizing s with
  | nil => exact keepsAll_refl s
  | cons a as ih => exact (h s a).trans (ih (g s a))

/-! ### What each law rests on -/

/-- The laws read the queue's handles and the states behind the front, the record, the lanes, the next handle and the
sizes of the tables. -/
theorem keepsAll_of_eq {s t : State} (fault : t.fault = s.fault)
    (ids : t.queue.map WorkItem.id = s.queue.map WorkItem.id)
    (states : t.queue.tail.map WorkItem.state = s.queue.tail.map WorkItem.state)
    (next : t.nextId = s.nextId) (lanes : t.lanes = s.lanes)
    (extents : t.extents.length = s.extents.length) (slots : t.slots.length = s.slots.length)
    (descriptors : t.descriptors.length = s.descriptors.length) : KeepsAll s t := by
  have length : t.queue.length = s.queue.length := by simpa using congrArg List.length ids
  have openLaw : OpenLaw s → OpenLaw t := by
    unfold OpenLaw State.lane
    rw [ids, next, lanes]
    exact id
  refine ⟨⟨fun h => fault ▸ h, fun h => ?_, ?_, openLaw⟩, ?_⟩
  · refine ⟨length ▸ h.1, fun it mem => ?_⟩
    have mem' : it.state ∈ s.queue.tail.map WorkItem.state := states ▸ List.mem_map_of_mem mem
    obtain ⟨x, inTail, same⟩ := List.mem_map.mp mem'
    exact same ▸ h.2 x inTail
  · unfold ShapeLaw
    rw [extents, slots, descriptors, lanes]
    exact id
  · rw [waitingLaw_iff, waitingLaw_iff]
    refine And.imp openLaw fun due => ?_
    unfold NoPlaceDue State.lane at due ⊢
    rwa [length, lanes]

/-- The groups of state that no law reads. -/
def unread : Footprint :=
  { drive := true, profile := true, list := true, head := true, receiver := true, outbound := true
    line := true, port := true }

/-- What changes only groups that no law reads keeps the laws. -/
theorem keepsAll_of_same {f : Footprint} {s t : State} (h : SameOutside f s t)
    (le : f.le unread := by decide) : KeepsAll s t := by
  obtain ⟨-, -, extents, fault, -, queue, -, slots, descriptors, lanes, -⟩ := h.mono le
  exact keepsAll_of_eq (fault rfl) (by rw [(queue rfl).1]) (by rw [(queue rfl).1]) (queue rfl).2 (lanes rfl)
    (by rw [extents rfl]) (by rw [slots rfl]) (by rw [descriptors rfl])

/-- A queue with the same handles and the same states behind its front. -/
theorem keepsAll_setQueue (s : State) (q : List WorkItem)
    (ids : q.map WorkItem.id = s.queue.map WorkItem.id)
    (states : q.tail.map WorkItem.state = s.queue.tail.map WorkItem.state) : KeepsAll s (s.setQueue q) :=
  keepsAll_of_eq rfl ids states rfl rfl rfl rfl rfl

theorem keepsAll_setFront (s : State) (it x : WorkItem) (rest : List WorkItem) (hq : s.queue = it :: rest)
    (id : x.id = it.id) : KeepsAll s (s.setQueue (x :: rest)) :=
  keepsAll_setQueue s _ (by simp [hq, id]) (by simp [hq])

theorem keepsAll_setSlots (s : State) (sl : List Slot) (size : sl.length = s.slots.length) :
    KeepsAll s (s.setSlots sl) :=
  keepsAll_of_eq rfl rfl rfl rfl rfl rfl size rfl

theorem keepsAll_setExtents (s : State) (es : List Extent) (size : es.length = s.extents.length) :
    KeepsAll s (s.setExtents es) :=
  keepsAll_of_eq rfl rfl rfl rfl rfl size rfl rfl

/-- A record that meets its law where the one before it did. -/
theorem keepsAll_setFault (s : State) (r : FaultRecord) (law : FaultLaw s.fault → FaultLaw r) :
    KeepsAll s (s.setFault r) :=
  ⟨⟨law, id, id, id⟩, id⟩

/-- Items that leave the queue. -/
theorem keeps_sublist (s : State) (q : List WorkItem) (sub : q.Sublist s.queue) : Keeps s (s.setQueue q) := by
  refine ⟨id, fun h => h.sublist sub, id, fun ⟨lanes, distinct, used⟩ => ⟨lanes, ?_, fun i mem => ?_⟩⟩
  · exact distinct.sublist (sub.map _)
  · exact used i ((sub.map _).subset mem)

/-- A new item at the tail, in a free place. -/
theorem keeps_addItem (s : State) (it : WorkItem) (room : s.queue.length < 8) (waits : it.state = .waiting)
    (handle : it.id = s.nextId) : Keeps s (s.addItem it) := by
  refine ⟨id, fun ⟨_, behind⟩ => ⟨?_, fun x mem => ?_⟩, id, fun ⟨lanes, distinct, used⟩ => ⟨lanes, ?_, ?_⟩⟩
  · simp [State.addItem]; omega
  · have inTail : x ∈ s.queue.tail ∨ x = it := by
      cases hq : s.queue with
      | nil => simp [State.addItem, hq] at mem
      | cons front rest => simpa [State.addItem, hq] using mem
    rcases inTail with mem | rfl
    · exact behind x mem
    · exact waits
  · have fresh : s.nextId ∉ s.queue.map WorkItem.id := fun mem => Nat.lt_irrefl _ (used _ mem)
    simpa [State.addItem, List.nodup_append, handle, distinct] using fun x mem same =>
      fresh (List.mem_map.mpr ⟨x, mem, same⟩)
  · intro i mem
    have : i ∈ s.queue.map WorkItem.id ∨ i = s.nextId := by simpa [State.addItem, handle, eq_comm] using mem
    change i < s.nextId + 1
    rcases this with mem | rfl
    · exact Nat.lt_succ_of_lt (used i mem)
    · exact Nat.lt_succ_self _

/-- A lane replaced by one that meets its law where the lane before it did. -/
theorem keeps_setLane (s : State) (n : Nat) (l : Lane) (law : LaneLaw (s.lane n) → LaneLaw l) :
    Keeps s (s.setLane n l) := by
  refine ⟨id, id, fun h => ?_, fun ⟨lanes, distinct, used⟩ => ⟨fun m hm => ?_, distinct, used⟩⟩
  · simpa [ShapeLaw, State.setLane] using h
  · rw [State.lane_setLane]
    split
    next same => exact law (same.1 ▸ lanes m hm)
    next => exact lanes m hm

/-- With a lane that waits for a place no more than the one before it, all the laws are kept. -/
theorem keepsAll_setLane (s : State) (n : Nat) (l : Lane) (law : LaneLaw (s.lane n) → LaneLaw l)
    (post : l.pendingPost = (s.lane n).pendingPost ∨ l.pendingPost = none) : KeepsAll s (s.setLane n l) := by
  have keeps := keeps_setLane s n l law
  refine ⟨keeps, fun h => ?_⟩
  rw [waitingLaw_iff] at h ⊢
  obtain ⟨lanes, due⟩ := h
  refine ⟨keeps.lanes lanes, fun room m hm => ?_⟩
  rw [State.lane_setLane]
  split
  next same =>
    rcases post with post | post
    · rw [post, ← same.1]; exact due room m hm
    · exact post
  next => exact due room m hm

/-- No lane waits: the clause on free places is met. -/
theorem keepsAll_of_none {s t : State} (h : Keeps s t) (none : OpenLaw t → ∀ n < 4, (t.lane n).pendingPost = none) :
    KeepsAll s t := by
  refine ⟨h, fun w => ?_⟩
  rw [waitingLaw_iff] at w ⊢
  exact ⟨h.lanes w.1, fun _ => none (h.lanes w.1)⟩

/-! ### The queue, the slots and the lanes -/

theorem map_id_of_bare {p q : List WorkItem} (h : p.map bareItem = q.map bareItem) :
    p.map WorkItem.id = q.map WorkItem.id := by
  simpa [Function.comp_def, bareItem] using congrArg (List.map WorkItem.id) h

theorem map_state_of_bare {p q : List WorkItem} (h : p.map bareItem = q.map bareItem) :
    p.tail.map WorkItem.state = q.tail.map WorkItem.state := by
  simpa [List.map_tail, Function.comp_def, bareItem] using congrArg (fun l => (List.map WorkItem.state l).tail) h

theorem walkItems_slots_length (frontId : Nat) (q : List WorkItem) (sl : List Slot) :
    (walkItems frontId q sl).2.1.length = sl.length := by
  induction q generalizing sl with
  | nil => rfl
  | cons it rest ih =>
    simp only [walkItems]
    split
    · exact giveSlots_length ..
    · exact (ih _).trans (giveSlots_length ..)

theorem State.walk_slots_length (s : State) : s.walk.slots.length = s.slots.length := by
  unfold State.walk
  split
  · rfl
  · exact walkItems_slots_length ..

theorem State.walk_keepsAll (s : State) : KeepsAll s s.walk := by
  obtain ⟨-, -, extents, fault, -, -, -, -, descriptors, lanes, -⟩ := s.walk_same
  have bare := s.walk_spec.1
  have next : s.walk.nextId = s.nextId := by unfold State.walk; split <;> rfl
  exact keepsAll_of_eq (fault rfl) (map_id_of_bare bare) (map_state_of_bare bare) next (lanes rfl)
    (by rw [extents rfl]) s.walk_slots_length (by rw [descriptors rfl])

theorem State.mapFront_keepsAll (f : WorkItem → WorkItem) (s : State) (id : ∀ it, (f it).id = it.id) :
    KeepsAll s (s.mapFront f) := by
  unfold State.mapFront
  split
  · exact keepsAll_refl s
  next it rest hq => exact keepsAll_setFront s it _ rest hq (id it)

theorem State.removeItem_keeps (id : Nat) (s : State) : Keeps s (s.removeItem id) :=
  (keeps_sublist s _ List.filter_sublist).trans (keepsAll_setSlots _ _ (freeItemSlots_length ..)).toKeeps

theorem State.removeWaiting_keeps (n : Nat) (s : State) : Keeps s (s.removeWaiting n) :=
  (keeps_sublist s _ List.filter_sublist).trans (keepsAll_setSlots _ _ (freeItemSlots_length ..)).toKeeps

/-- A lane that halts drops its pending post and keeps its stops (R148). -/
theorem LaneLaw.halts {l : Lane} (c : HaltCause) :
    LaneLaw { l with state := .halted, halt := some c, pendingPost := none } := by simp [LaneLaw]

theorem State.haltSilently_keeps (removing : Bool) (n : Nat) (c : HaltCause) (s : State) :
    Keeps s (s.haltSilently removing n c) := by
  have halt (t : State) :
      Keeps t (t.setLane n { t.lane n with state := .halted, halt := some c, pendingPost := none }) :=
    keeps_setLane _ _ _ fun _ => LaneLaw.halts c
  unfold State.haltSilently
  cases removing with
  | false => exact halt s
  | true => exact (s.removeWaiting_keeps n).trans (halt _)

theorem State.haltLane_keeps (removing : Bool) (n : Nat) (c : HaltCause) (s : State) :
    Keeps s (s.haltLane removing n c) :=
  (s.haltSilently_keeps removing n c).trans (keepsAll_of_same (State.notify_same _ _)).toKeeps

theorem State.overrunLanes_keeps (poster : Option Nat) (c : CauseSet) (s : State) :
    Keeps s (s.overrunLanes poster c) := by
  refine keeps_foldl _ (fun t n => ?_) _ _
  split
  · exact t.haltSilently_keeps _ _ _
  · exact keeps_refl t

/-! ### The fault record -/

theorem State.recordViolation_keeps (poster : Option Nat) (a : Access) (c : CauseSet) (s : State)
    (some : c.any = true) : Keeps s (s.recordViolation poster a c) := by
  have noticed (t : State) (n : Notice) : Keeps t (t.notify n) := (keepsAll_of_same (t.notify_same n)).toKeeps
  unfold State.recordViolation
  dsimp only
  split
  · exact (keepsAll_setFault s _ fun _ => .capture _ some).toKeeps.trans (noticed _ _)
  next state =>
    have held := ((s.fault.state_cases).2.1.mp state).1
    exact ((keepsAll_setFault s _ fun law => law.overrun held).toKeeps.trans (noticed _ _)).trans
      (State.overrunLanes_keeps _ _ _)
  · exact keeps_refl s

/-- A violation that does not overrun removes no item. -/
theorem State.recordViolation_keepsAll (poster : Option Nat) (a : Access) (c : CauseSet) (s : State)
    (some : c.any = true) (calm : s.overruns = false) : KeepsAll s (s.recordViolation poster a c) := by
  have calm : s.fault.state ≠ .held := of_decide_eq_false calm
  unfold State.recordViolation
  dsimp only
  split
  · exact (keepsAll_setFault s _ fun _ => .capture _ some).trans (keepsAll_of_same (State.notify_same _ _))
  next state => exact absurd state calm
  · exact keepsAll_refl s

theorem State.recordEdge_keepsAll (a : Access) (s : State) : KeepsAll s (s.recordEdge a) := by
  have noticed (t : State) (n : Notice) : KeepsAll t (t.notify n) := keepsAll_of_same (t.notify_same n)
  unfold State.recordEdge
  dsimp only
  split
  · exact (keepsAll_setFault s _ fun _ => .captureEdge _).trans (noticed _ _)
  next state =>
    have held := ((s.fault.state_cases).2.1.mp state).1
    split
    · exact keepsAll_refl s
    · exact (keepsAll_setFault s _ fun law => law.secondEdge held).trans (noticed _ _)
  · exact keepsAll_refl s

theorem State.edgeCheck_keepsAll (a : Access) (s : State) : KeepsAll s (s.edgeCheck a) := by
  unfold State.edgeCheck
  split
  · exact s.recordEdge_keepsAll a
  · exact keepsAll_refl s

/-! ### Lanes, and the close of an event -/

theorem State.addPiece_keeps (n : Nat) (p : Piece) (s : State) (room : s.queue.length < 8) :
    Keeps s (s.addPiece n p) := keeps_addItem _ _ room rfl rfl

/-- A lane whose pending post has been taken. -/
theorem LaneLaw.unposted {l : Lane} (law : LaneLaw l) : LaneLaw { l with pendingPost := none } :=
  ⟨fun h => absurd rfl h, law.2⟩

theorem State.placeOnePending_keeps (s : State) : Keeps s s.placeOnePending := by
  unfold State.placeOnePending
  split
  next free =>
    split
    · exact keeps_refl s
    · exact (keeps_setLane s _ _ LaneLaw.unposted).trans
        (State.addPiece_keeps _ _ _ (of_decide_eq_true free : s.queue.length < 8))
  next => exact keeps_refl s

theorem State.placeAllPending_keeps (s : State) : Keeps s s.placeAllPending :=
  keeps_foldl _ (fun t _ => t.placeOnePending_keeps) _ _

theorem placesGiven_eq_nil_iff (s : State) : placesGiven s = [] ↔ NoPlaceDue s := by
  unfold placesGiven NoPlaceDue
  rw [List.take_eq_nil_iff, List.filterMap_eq_nil_iff]
  constructor
  · rintro (full | none) room n hn
    · omega
    · have mem : n ∈ [0, 1, 2, 3] := by simp; omega
      simpa using none n mem
  · intro due
    by_cases room : s.queue.length < 8
    · refine .inr fun n mem => ?_
      rw [due room n (by simp at mem; omega)]
      rfl
    · exact .inl (by omega)

/-- The close of an event keeps the laws, and gives every free place that a lane waits for (R84). -/
theorem Keeps.settle {s t : State} (h : Keeps s t) : KeepsAll s t.settle := by
  have resumed : KeepsAll t.placeAllPending.walk t.settle := keepsAll_of_same (State.resumeFetch_same _)
  have closes : Keeps s t.settle :=
    ((h.trans t.placeAllPending_keeps).trans (State.walk_keepsAll _).toKeeps).trans resumed.toKeeps
  refine ⟨closes, fun w => ?_⟩
  rw [waitingLaw_iff] at w ⊢
  exact ⟨closes.lanes w.1, (placesGiven_eq_nil_iff _).mp t.placesGiven_settle⟩

theorem State.followLink_keeps (n g : Nat) (s : State) : Keeps s (s.followLink n g) := by
  have failing : Keeps s (s.setLane n { s.lane n with descriptor := g, completed := 0 }) :=
    keeps_setLane _ _ _ id
  have halts (c : HaltCause) (t : State) : Keeps t (t.haltLane true n c) := t.haltLane_keeps true n c
  unfold State.followLink
  dsimp only
  split
  · exact failing.trans (halts _ _)
  · split
    next violates =>
      have recorded (a : Access) := failing.trans (State.recordViolation_keeps (some n) a _ _ violates)
      split
      · exact recorded _
      · exact (recorded _).trans (halts _ _)
    next =>
      split
      · exact failing.trans (halts _ _)
      · exact keeps_setLane _ _ _ id

/-- The descriptor of an ACTIVE lane that waits for no place is complete (R144). -/
theorem State.completeDescriptor_keeps (n : Nat) (s : State) (active : (s.lane n).state = .active)
    (post : (s.lane n).pendingPost = none) : Keeps s (s.completeDescriptor n) := by
  have told : Keeps s (if (s.laneDescriptor n).notify = 1#8 then
      s.notify (.laneDone n (s.lane n).descriptor (s.lane n).completed) else s) := by
    split
    · exact (keepsAll_of_same (s.notify_same _)).toKeeps
    · exact keeps_refl s
  have same : (if (s.laneDescriptor n).notify = 1#8 then
      s.notify (.laneDone n (s.lane n).descriptor (s.lane n).completed) else s).lane n = s.lane n := by
    split <;> rfl
  unfold State.completeDescriptor
  dsimp only
  generalize (if (s.laneDescriptor n).notify = 1#8 then
    s.notify (.laneDone n (s.lane n).descriptor (s.lane n).completed) else s) = t at told same ⊢
  split
  · exact told.trans (keeps_setLane _ _ _ fun law => by rw [same] at law; exact law)
  · split
    · exact told.trans (t.followLink_keeps n _)
    · refine told.trans (keeps_setLane _ _ _ fun law => ?_)
      rw [same] at law
      refine ⟨fun posted => absurd post posted, fun stops => ?_⟩
      have := law.2 stops
      simp [active] at this

theorem State.endDrain_keepsAll (n : Nat) (s : State)
    (stopping : (s.lane n).state = .draining ∨ (s.lane n).state = .halted) : KeepsAll s (s.endDrain n) := by
  refine KeepsAll.trans ?_ (keepsAll_of_same (State.produceAll_same _ _))
  refine keepsAll_setLane s n _ (fun law => ⟨fun posted => ?_, fun stops => absurd rfl stops⟩) (.inl rfl)
  have active := law.1 posted
  rcases stopping with h | h <;> simp [h] at active

theorem State.laneResult_keeps (loss : Bool) (r : LaneItemResult) (s : State) : Keeps s (s.laneResult loss r) := by
  unfold State.laneResult
  dsimp only
  have counted : Keeps s (s.setLane r.lane { s.lane r.lane with
      completed := (s.lane r.lane).completed + r.blocksDone }) := keeps_setLane s r.lane _ id
  refine counted.trans ?_
  generalize r.lane = n
  generalize s.setLane n { s.lane n with completed := (s.lane n).completed + r.blocksDone } = t
  split
  next active =>
    split
    · split
      next last => exact t.completeDescriptor_keeps n active last.2.2
      next => exact keeps_refl t
    · exact t.haltLane_keeps _ _ _
  next draining => exact (t.endDrain_keepsAll n (.inl draining)).toKeeps
  next halted =>
    split
    · exact keeps_refl t
    · exact (t.endDrain_keepsAll n (.inr halted)).toKeeps
  next => exact keeps_refl t

theorem State.finishItem_keeps (loss : Bool) (it : WorkItem) (o : ItemOutcome) (c : WriteCause) (s : State) :
    Keeps s (s.finishItem loss it o c) := by
  unfold State.finishItem
  split
  · exact (keepsAll_of_same (s.produce_same _)).toKeeps.trans (State.removeItem_keeps _ _)
  · exact (s.removeItem_keeps _).trans (State.laneResult_keeps _ _ _)

/-! ### The ending of an item, and blocks that become complete -/

theorem State.endItem_keepsAll (o : ItemOutcome) (c : WriteCause) (s : State) : KeepsAll s (s.endItem o c) := by
  unfold State.endItem
  dsimp only
  refine (keepsAll_of_same s.clearHead_same).trans ?_
  generalize s.clearHead = t
  split
  · exact keepsAll_refl t
  next it rest hq =>
    split
    · exact keepsAll_setFront t it _ rest hq rfl
    · exact (t.finishItem_keeps _ _ _ _).settle

theorem State.endFromOutside_keepsAll (it : WorkItem) (o : ItemOutcome) (s : State) :
    KeepsAll s (s.endFromOutside it o) := by
  have cut : KeepsAll s (if it.state = .inService then s.cutItem else s) := by
    split
    · exact keepsAll_of_same s.cutItem_same
    · exact keepsAll_refl s
  exact (cut.toKeeps.trans (State.finishItem_keeps _ _ _ _ _)).settle

theorem State.setItemFlags_keepsAll (it : WorkItem) (change : Bool) (s : State) :
    KeepsAll s (s.setItemFlags it change) := by
  unfold State.setItemFlags
  split
  · exact keepsAll_refl s
  · exact keepsAll_setExtents s _ List.length_set

theorem State.completeBlock_keepsAll (k : Nat) (s : State) : KeepsAll s (s.completeBlock k) := by
  unfold State.completeBlock
  split
  · exact keepsAll_refl s
  next it rest hq =>
    have counted := keepsAll_setFront s it { it with blocksDone := it.blocksDone + 1 } rest hq rfl
    have flagged := counted.trans (State.setItemFlags_keepsAll it true _)
    refine flagged.trans (keepsAll_setSlots _ _ ?_)
    rw [freeSlot_length]
    unfold State.setItemFlags
    split <;> rfl

theorem State.completeBlocks_keepsAll (ks : List Nat) (s : State) : KeepsAll s (s.completeBlocks ks) :=
  keepsAll_foldl _ (fun t k => t.completeBlock_keepsAll k) _ _

theorem State.continueItem_keepsAll (s : State) : KeepsAll s s.continueItem := by
  unfold State.continueItem
  split
  · exact keepsAll_refl s
  · split
    · exact s.endItem_keepsAll _ _
    · exact keepsAll_of_same s.formRun_same

theorem State.takeUpFailing_keepsAll (s : State) : KeepsAll s s.takeUpFailing := by
  unfold State.takeUpFailing
  split
  · split
    · exact s.endItem_keepsAll _ _
    · split
      · exact keepsAll_refl s
      · split
        · exact s.endItem_keepsAll _ _
        next l _ =>
          have listed : KeepsAll s (s.setList l) := keepsAll_of_eq rfl rfl rfl rfl rfl rfl rfl rfl
          have allocated := (listed.trans (State.mapFront_keepsAll
            (fun it => { it with replacements := it.replacements + 1 }) _ fun _ => rfl)).trans
            (keepsAll_of_same (State.mapHead_same (fun h => { h with relocations := h.relocations + 1 }) _))
          dsimp only
          split
          · exact allocated.trans (keepsAll_of_same (State.startWriteBack_same _))
          · exact allocated.trans (keepsAll_of_same (State.startRewrite_same _))
  · exact keepsAll_refl s

/-! ### The mount and the ending of a task -/

/-- The extent table replaced by one of 48 entries. -/
theorem keepsAll_setTable (s : State) (es : List Extent) (size : es.length = 48) :
    KeepsAll s (s.setExtents es) :=
  ⟨⟨id, id, fun h => ⟨size, h.2⟩, id⟩, id⟩

theorem readExtents_length (b : Block) (es : List Extent) (h : readExtents b = some es) : es.length = 48 := by
  unfold readExtents at h
  split at h
  · simp [← Option.some.inj h, Config.extentEntries]
  · contradiction

theorem State.extentsRead_keepsAll (b : Option Block) (s : State) : KeepsAll s (s.extentsRead b) := by
  unfold State.extentsRead
  split
  next es read =>
    obtain ⟨b, -, read⟩ := Option.bind_eq_some_iff.mp read
    exact (keepsAll_setTable s es (readExtents_length b es read)).trans
      (keepsAll_of_same (State.mountSucceeds_same _))
  · exact ((keepsAll_setTable s _ List.length_replicate).trans
      (keepsAll_of_same (State.notify_same _ _))).trans (keepsAll_of_same (State.mountSucceeds_same _))

theorem State.controlReadDone_keepsAll (r : ControlRead) (s : State) : KeepsAll s (s.controlReadDone r) := by
  unfold State.controlReadDone
  dsimp only
  refine (keepsAll_of_same s.clearHead_same).trans ?_
  cases r with
  | format => exact keepsAll_of_same (State.formatRead_same _ _)
  | listHeader =>
    dsimp only
    split
    · exact keepsAll_of_same (State.listRead_same _ _)
    · exact keepsAll_of_same (State.listRead_same _ _)
    · exact (keepsAll_of_same (State.mapHead_same _ _)).trans
        (keepsAll_of_same (State.startControlRead_same _ _))
  | listEntries => exact keepsAll_of_same (State.listRead_same _ _)
  | extents => exact State.extentsRead_keepsAll _ _

theorem State.controlReadFails_keepsAll (r : ControlRead) (s : State) : KeepsAll s (s.controlReadFails r) := by
  unfold State.controlReadFails
  refine (keepsAll_of_same s.clearHead_same).trans ?_
  cases r with
  | format => exact keepsAll_of_same (State.formatRead_same _ _)
  | listHeader => exact keepsAll_of_same (State.listRead_same _ _)
  | listEntries => exact keepsAll_of_same (State.listRead_same _ _)
  | extents => exact State.extentsRead_keepsAll _ _

theorem State.controlWriteDone_keepsAll (s : State) : KeepsAll s s.controlWriteDone := by
  have one (t : State) : KeepsAll t ((t.mapFront fun it => { it with blocksDone := 1 }).endItem .ok .none) := by
    refine KeepsAll.trans ?_ (State.endItem_keepsAll _ _ _)
    exact t.mapFront_keepsAll _ fun _ => rfl
  unfold State.controlWriteDone
  split
  · exact one s
  · dsimp only
    refine (keepsAll_of_same (s.mapList_same fun l => { l with dirty := false })).trans ?_
    split
    · exact keepsAll_refl _
    · split
      · exact one _
      · exact (keepsAll_of_same (State.mapHead_same _ _)).trans (keepsAll_of_same (State.startRewrite_same _))
  · exact (keepsAll_of_same (s.mapList_same _)).trans (keepsAll_of_same (State.clearHead_same _))
  · exact keepsAll_refl s

theorem State.endTask_keepsAll (o : ItemOutcome) (c : WriteCause) (s : State) : KeepsAll s (s.endTask o c) := by
  unfold State.endTask
  split
  · exact keepsAll_refl s
  · split
    · dsimp only
      refine (keepsAll_of_same (s.notifyWriteFailed_same o c)).trans ?_
      split
      · exact keepsAll_refl _
      · split
        · exact State.endItem_keepsAll _ _ _
        · exact (keepsAll_of_same (State.mapHead_same _ _)).trans (keepsAll_of_same (State.startRewrite_same _))
    · exact s.endItem_keepsAll _ _
  · exact (keepsAll_of_same (s.mapDrive_same _)).trans (keepsAll_of_same (State.clearHead_same _))
  · exact (keepsAll_of_same (s.notifyWriteFailed_same _ _)).trans (keepsAll_of_same (State.clearHead_same _))
  · exact (keepsAll_of_same (s.notifyWriteFailed_same _ _)).trans (keepsAll_of_same (State.clearHead_same _))
  · exact s.controlReadFails_keepsAll _

/-! ### Passes and results -/

theorem State.mapTargetAt_same (n : Nat) (f : Target → Target) (s : State) :
    SameOutside { head := true } s (s.mapTargetAt n f) := s.mapHead_same _

theorem State.afterRewrite_keepsAll (s : State) : KeepsAll s s.afterRewrite := by
  unfold State.afterRewrite
  split
  · exact ((s.completeBlocks_keepsAll _).trans (keepsAll_of_same (State.mapHead_same _ _))).trans
      (State.continueItem_keepsAll _)
  · exact ((s.completeBlocks_keepsAll _).trans (keepsAll_of_same (State.mapHead_same _ _))).trans
      (State.takeUpFailing_keepsAll _)

theorem State.rewriteVerified_keepsAll (ok : Bool) (s : State) : KeepsAll s (s.rewriteVerified ok) := by
  unfold State.rewriteVerified
  split
  · split
    · exact keepsAll_refl s
    · exact ((s.completeBlock_keepsAll _).trans (keepsAll_of_same (State.mapHead_same _ _))).trans
        (State.afterRewrite_keepsAll _)
  · exact s.takeUpFailing_keepsAll

theorem State.blocksVerified_keepsAll (ts : List Target) (s : State) : KeepsAll s (s.blocksVerified ts) := by
  unfold State.blocksVerified
  dsimp only
  refine KeepsAll.trans (s.completeBlocks_keepsAll ((ts.takeWhile fun t => decide (t.stage = .good)).map
    Target.block)) ?_
  split
  · exact State.continueItem_keepsAll _
  · exact (keepsAll_of_same (State.mapHead_same _ _)).trans (State.takeUpFailing_keepsAll _)

theorem KeepsAll.settle {s t : State} (h : KeepsAll s t) : KeepsAll s t.settle := h.toKeeps.settle

theorem State.verifyEnds_keepsAll (r : Run) (s : State) : KeepsAll s (s.verifyEnds r) := by
  have control : KeepsAll s (if r.targets.all fun t => decide (t.stage = .good) then s.controlWriteDone
      else s.endTask .writeFailed .verify) := by
    split
    · exact s.controlWriteDone_keepsAll
    · exact s.endTask_keepsAll _ _
  unfold State.verifyEnds
  split
  · exact (s.blocksVerified_keepsAll _).settle
  · exact (s.rewriteVerified_keepsAll _).settle
  · exact control
  · exact control
  · exact keepsAll_refl s

theorem State.slotsWritten_keepsAll (ts : List Target) (s : State) : KeepsAll s (s.slotsWritten ts) := by
  unfold State.slotsWritten
  split
  · exact keepsAll_refl s
  · refine keepsAll_setSlots s _ ?_
    generalize s.slots = sl
    induction ts generalizing sl with
    | nil => rfl
    | cons t ts ih => rw [List.foldl_cons, ih]; split <;> simp

theorem State.nextPass_keepsAll (s : State) : KeepsAll s s.nextPass := keepsAll_of_same s.nextPass_same

theorem State.writeEnds_keepsAll (r : Run) (s : State) : KeepsAll s (s.writeEnds r) := by
  unfold State.writeEnds
  split
  · dsimp only
    refine (s.slotsWritten_keepsAll r.targets).trans ?_
    split
    · exact ((State.completeBlocks_keepsAll _ _).trans (State.continueItem_keepsAll _)).settle
    · exact State.nextPass_keepsAll _
  · exact s.nextPass_keepsAll

theorem State.readRoundEnds_keepsAll (r : Run) (s : State) : KeepsAll s (s.readRoundEnds r) := by
  unfold State.readRoundEnds
  split
  · exact keepsAll_of_same (s.mapHead_same _)
  · split
    · exact s.endTask_keepsAll _ _
    · split
      · exact s.controlReadDone_keepsAll _
      · exact keepsAll_refl s
      · exact s.continueItem_keepsAll
      · exact keepsAll_refl s

theorem State.blankCheckEnds_keepsAll (s : State) : KeepsAll s s.blankCheckEnds := by
  unfold State.blankCheckEnds
  split
  · exact s.continueItem_keepsAll
  · exact s.nextPass_keepsAll

theorem State.endPassIfOver_keepsAll (s : State) : KeepsAll s s.endPassIfOver := by
  unfold State.endPassIfOver
  split
  · exact keepsAll_refl s
  · split
    · split
      · exact s.nextPass_keepsAll
      · exact s.writeEnds_keepsAll _
      · exact s.verifyEnds_keepsAll _
      · exact s.blankCheckEnds_keepsAll
      · exact s.readRoundEnds_keepsAll _
    · exact keepsAll_refl s

theorem State.notBlank_keepsAll (r : Run) (s : State) : KeepsAll s (s.notBlank r) := by
  have ends : KeepsAll s (match s.queue with
      | [] => s
      | it :: _ =>
        if it.kind = .blank then s.endItem .eraseFailed .none else s.endItem .alreadyWritten .none) := by
    split
    · exact keepsAll_refl s
    · split <;> exact s.endItem_keepsAll _ _
  unfold State.notBlank
  cases r.work with
  | rewrite => exact s.takeUpFailing_keepsAll.settle
  | blocks => exact ends
  | store => exact ends
  | listImage => exact ends
  | control => exact ends

theorem State.actOnTarget_keepsAll (r : Run) (t : Target) (blankMark : Bool) (s : State) :
    KeepsAll s (s.actOnTarget r t blankMark) := by
  have marked (stage : Stage) : KeepsAll s (s.mapTargetAt t.sector (Target.acted stage)) :=
    keepsAll_of_same (s.mapTargetAt_same _ _)
  have acted (stage : Stage) (a : PortAction) :
      KeepsAll s ((s.mapTargetAt t.sector (Target.acted stage)).act a) :=
    (marked stage).trans (keepsAll_of_same (State.act_same _ _))
  unfold State.actOnTarget
  split
  · exact (acted _ _).trans (State.endPassIfOver_keepsAll _)
  · exact (acted _ _).trans (State.endPassIfOver_keepsAll _)
  · exact acted _ _
  · exact acted _ _
  · split
    · dsimp only
      refine KeepsAll.trans ?_ (State.endPassIfOver_keepsAll _)
      split
      · exact (marked _).trans (State.completeBlock_keepsAll _ _)
      · exact marked _
    · exact s.notBlank_keepsAll r

theorem State.passArrival_keepsAll (r : Run) (sector : Nat) (blankMark : Bool) (s : State) :
    KeepsAll s (s.passArrival r sector blankMark) := by
  unfold State.passArrival
  split
  · exact keepsAll_refl s
  · split
    · split
      · exact s.actOnTarget_keepsAll _ _ _
      · exact keepsAll_refl s
    · exact (keepsAll_of_same (s.mapTargetAt_same _ _)).trans (State.endPassIfOver_keepsAll _)
    · exact keepsAll_refl s
    · exact keepsAll_refl s

theorem State.wrongTrack_keepsAll (s : State) : KeepsAll s s.wrongTrack := by
  unfold State.wrongTrack
  split
  · exact (keepsAll_of_same (s.mapHead_same _)).trans (keepsAll_of_same (State.commandSeek_same _ _))
  · exact (keepsAll_of_same (s.mapHead_same _)).trans (State.endTask_keepsAll _ _ _)

theorem State.sectorId_keepsAll (track sector : Nat) (blankMark : Bool) (s : State) :
    KeepsAll s (s.sectorId track sector blankMark) := by
  unfold State.sectorId
  split
  · exact keepsAll_refl s
  · split
    case h_1 =>
      split
      · exact s.wrongTrack_keepsAll
      · split
        · exact keepsAll_of_same s.hold_same
        · split
          · exact (keepsAll_of_same (s.mapHead_same _)).trans (State.passArrival_keepsAll _ _ _ _)
          · exact keepsAll_refl s
    case h_2 =>
      split
      · exact keepsAll_refl s
      · split
        · exact s.wrongTrack_keepsAll
        · exact s.passArrival_keepsAll _ _ _
    all_goals exact keepsAll_refl s

theorem State.deliver_keepsAll (t : Target) (d : Block) (corrected : Nat) (s : State) :
    KeepsAll s (s.deliver t d corrected) := by
  unfold State.deliver
  split
  · exact keepsAll_refl s
  next it rest hq =>
    have filled := keepsAll_setSlots s (fillSlot it.id t.block .ready d s.slots) (fillSlot_length ..)
    dsimp only
    refine KeepsAll.trans (filled.trans ?_) (State.setItemFlags_keepsAll _ _ _)
    exact keepsAll_setFront _ it _ rest hq rfl

theorem State.readData_keepsAll (track sector : Nat) (res : ReadResult) (s : State) :
    KeepsAll s (s.readData track sector res) := by
  have marked (f : Target → Target) : KeepsAll s (s.mapTargetAt sector f) :=
    keepsAll_of_same (s.mapTargetAt_same _ _)
  unfold State.readData
  split
  · exact keepsAll_refl s
  · split
    · exact (marked _).trans (State.endPassIfOver_keepsAll _)
    · dsimp only
      refine KeepsAll.trans ?_ (State.endPassIfOver_keepsAll _)
      split
      · exact (marked _).trans (keepsAll_of_same (State.mapHead_same _ _))
      · exact (marked _).trans (State.deliver_keepsAll _ _ _ _)

theorem State.verifyResult_keepsAll (track sector : Nat) (isMatch : Bool) (s : State) :
    KeepsAll s (s.verifyResult track sector isMatch) := by
  unfold State.verifyResult
  split
  · exact keepsAll_refl s
  · exact (keepsAll_of_same (s.mapTargetAt_same _ _)).trans (State.endPassIfOver_keepsAll _)

theorem State.seekArrives_same (s : State) : SameOutside { head := true, port := true } s s.seekArrives := by
  unfold State.seekArrives
  split
  · exact sameOutside_refl _ _
  · split
    · exact ((s.mapHead_same _).mono (by decide)).trans (State.meetBias_same _)
    · exact sameOutside_refl _ _

theorem State.biasArrives_same (s : State) : SameOutside { head := true } s s.biasArrives := by
  unfold State.biasArrives
  split
  · exact sameOutside_refl _ _
  · split
    · exact (s.mapHead_same _).trans (State.meetSpeed_same _)
    · exact sameOutside_refl _ _

theorem State.seekExpires_keepsAll (s : State) : KeepsAll s s.seekExpires := by
  unfold State.seekExpires
  split
  · split
    · exact keepsAll_of_same (s.commandSeek_same _)
    · exact (keepsAll_of_same (s.mapHead_same _)).trans (State.endTask_keepsAll _ _ _)
  · exact keepsAll_refl s

theorem State.biasExpires_keepsAll (s : State) : KeepsAll s s.biasExpires := by
  unfold State.biasExpires
  split
  · exact (keepsAll_of_same (s.mapHead_same _)).trans (State.endTask_keepsAll _ _ _)
  · exact keepsAll_refl s

theorem State.holdExpires_keepsAll (s : State) : KeepsAll s s.holdExpires := by
  unfold State.holdExpires
  split
  · exact s.endTask_keepsAll _ _
  · exact keepsAll_refl s

theorem State.missingEnds_keepsAll (s : State) : KeepsAll s s.missingEnds := by
  unfold State.missingEnds
  split
  · exact s.endTask_keepsAll _ _
  · exact keepsAll_refl s

/-! ### The drive -/

theorem State.startMount_same (s : State) :
    SameOutside { drive := true, head := true, port := true } s s.startMount :=
  ((s.mapDrive_same _).mono (by decide)).trans ((State.startControlRead_same _ _).mono (by decide))

theorem State.countRevolution_same (s : State) : SameOutside { head := true } s s.countRevolution := by
  unfold State.countRevolution
  split
  · exact s.mapHead_same _
  · exact sameOutside_refl _ _

/-- A change of the speed status: notices, a head that goes on, and the mount after the spin-up. -/
theorem State.speedBecomes_same (new : SpeedStatus) (period : Option Nat) (s : State) :
    SameOutside { drive := true, head := true, outbound := true, port := true } s (s.speedBecomes new period) := by
  unfold State.speedBecomes
  dsimp only
  have changed : SameOutside { drive := true, head := true, outbound := true, port := true } s
      (s.mapDrive fun d => { d with speed := new }) := (s.mapDrive_same _).mono (by decide)
  generalize s.mapDrive (fun d => { d with speed := new }) = t at changed ⊢
  refine changed.trans ?_
  split
  · exact sameOutside_refl _ _
  · cases new with
    | offSpeed =>
      dsimp only
      split
      · exact (t.notify_same _).mono (by decide)
      · exact sameOutside_refl _ _
    | inSpeed =>
      dsimp only
      have told : SameOutside { drive := true, head := true, outbound := true, port := true } t
          (if t.drive.state = .ready then t.notify (.speedBack (periodValue period)) else t) := by
        split
        · exact (t.notify_same _).mono (by decide)
        · exact sameOutside_refl _ _
      generalize (if t.drive.state = .ready then t.notify (.speedBack (periodValue period)) else t) = u at told ⊢
      have released : SameOutside { drive := true, head := true, outbound := true, port := true } u
          (if u.head.activity = .holding then
            u.mapHead fun h => { h with activity := .awaitingStart, holdTimer := none }
          else u) := by
        split
        · exact (u.mapHead_same _).mono (by decide)
        · exact sameOutside_refl _ _
      generalize (if u.head.activity = .holding then
          u.mapHead fun h => { h with activity := .awaitingStart, holdTimer := none }
        else u) = v at released ⊢
      refine told.trans (released.trans ?_)
      split
      · exact v.startMount_same.mono (by decide)
      · exact sameOutside_refl _ _

theorem State.indexAt_same (v : Nat) (s : State) :
    SameOutside { drive := true, head := true, outbound := true, port := true } s (s.indexAt v) := by
  unfold State.indexAt
  split
  · exact (((s.mapDrive_same _).mono (by decide)).trans ((State.countRevolution_same _).mono (by decide))).trans
      (State.speedBecomes_same _ _ _)
  · exact ((s.mapDrive_same _).mono (by decide)).trans ((State.countRevolution_same _).mono (by decide))

theorem State.indexLoss_keepsAll (s : State) : KeepsAll s s.indexLoss := by
  unfold State.indexLoss
  split
  · dsimp only
    refine ((keepsAll_of_same (s.mapDrive_same fun d =>
      { d with counter := Config.counterTop, period := none, tracking := false, good := 0 })).trans
      (keepsAll_of_same (State.speedBecomes_same .offSpeed none _))).trans ?_
    split
    · exact State.endTask_keepsAll _ _ _
    · exact keepsAll_refl _
  · exact keepsAll_refl s

theorem State.indexArrives_keepsAll (elapsed : Nat) (s : State) : KeepsAll s (s.indexArrives elapsed) := by
  have indexed (v : Nat) (t : State) : KeepsAll t (t.indexAt v) := keepsAll_of_same (t.indexAt_same v)
  unfold State.indexArrives
  split
  · split
    · exact indexed _ s
    · dsimp only
      refine s.indexLoss_keepsAll.trans ?_
      split
      · exact indexed _ _
      · exact keepsAll_refl _
  · exact keepsAll_refl s

theorem State.insert_same (tab : Bool) (s : State) : SameOutside { drive := true, port := true } s (s.insert tab) := by
  unfold State.insert
  split
  · exact ((s.mapDrive_same _).mono (by decide)).trans ((State.act_same _ _).mono (by decide))
  · exact sameOutside_refl _ _

theorem State.spinUpExpires_same (s : State) :
    SameOutside { drive := true, head := true, port := true, outbound := true } s s.spinUpExpires := by
  unfold State.spinUpExpires
  split
  · exact s.mountFails_same _
  · exact sameOutside_refl _ _

theorem State.unloadLanes_keeps (s : State) : Keeps s s.unloadLanes := by
  refine keeps_foldl _ (fun t n => ?_) _ _
  split
  · exact t.haltLane_keeps _ _ _
  · exact keeps_refl t

theorem State.startUnload_keepsAll (s : State) : KeepsAll s s.startUnload := by
  unfold State.startUnload
  dsimp only
  refine (keepsAll_of_same (s.mapDrive_same fun d =>
    { d with state := .unloading, spinUp := none, mountFault := none, tried := false })).trans ?_
  split
  · exact keepsAll_of_same (State.cutHead_same _)
  · exact (State.unloadLanes_keeps _).settle
  all_goals exact keepsAll_refl _

theorem State.discardList_same (atLoss : Bool) (s : State) :
    SameOutside { list := true, outbound := true } s (s.discardList atLoss) := by
  unfold State.discardList
  dsimp only
  split <;> simp [SameOutside, State.notify, State.produce]

theorem State.answerUnloads_same (s : State) :
    SameOutside { drive := true, outbound := true } s s.answerUnloads :=
  ((s.produceAll_same _).mono (by decide)).trans ((State.mapDrive_same _ _).mono (by decide))

theorem State.releaseCartridge_same (s : State) :
    SameOutside { drive := true, list := true, head := true, outbound := true, port := true } s
      s.releaseCartridge :=
  ((((((s.discardList_same false).mono (by decide)).trans ((State.spindleOff_same _).mono (by decide))).trans
    ((State.act_same _ _).mono (by decide))).trans ((State.notify_same _ _).mono (by decide))).trans
    ((State.answerUnloads_same _).mono (by decide))).trans ((State.mapDrive_same _ _).mono (by decide))

theorem State.completeUnload_same (s : State) :
    SameOutside { drive := true, list := true, head := true, outbound := true, port := true } s
      s.completeUnload := by
  unfold State.completeUnload
  split
  · split
    · exact (((s.mapList_same _).mono (by decide)).trans ((State.mapHead_same _ _).mono (by decide))).trans
        ((State.startWriteBack_same _).mono (by decide))
    · exact s.releaseCartridge_same
  · exact sameOutside_refl _ _

theorem State.loseItem_keeps (s : State) (it : WorkItem) : Keeps s (s.loseItem it) :=
  (keepsAll_of_same (s.produceAll_same _)).toKeeps.trans (State.finishItem_keeps _ _ _ _ _)

/-- The lanes that are still ACTIVE halt at a cartridge loss (R149). -/
def State.haltActive (cause : HaltCause) (ns : List Nat) (s : State) : State :=
  ns.foldl (fun s n => if (s.lane n).state = .active then s.haltLane false n cause else s) s

theorem State.haltActive_keeps (cause : HaltCause) (ns : List Nat) (s : State) : Keeps s (s.haltActive cause ns) := by
  refine keeps_foldl _ (fun t n => ?_) _ _
  split
  · exact t.haltLane_keeps _ _ _
  · exact keeps_refl t

theorem State.haltLane_false_lane (n m : Nat) (c : HaltCause) (s : State) :
    (s.haltLane false n c).lane m =
      if m = n ∧ n < s.lanes.length then
        { s.lane n with state := .halted, halt := some c, pendingPost := none }
      else s.lane m :=
  s.lane_setLane n m _

/-- A number at which the lane reads as ACTIVE is one of a lane in the table. -/
theorem State.lt_of_active {s : State} {n : Nat} (active : (s.lane n).state = .active) : n < s.lanes.length := by
  by_contra outside
  simp [State.lane, List.getD, List.getElem?_eq_none (Nat.le_of_not_lt outside), Lane.reset] at active

theorem State.haltActive_not_active (cause : HaltCause) (ns : List Nat) (s : State) (n : Nat)
    (h : n ∈ ns ∨ (s.lane n).state ≠ .active) : ((s.haltActive cause ns).lane n).state ≠ .active := by
  induction ns generalizing s with
  | nil => simpa [State.haltActive] using h
  | cons m ns ih =>
    refine ih _ ?_
    dsimp only
    split
    next active =>
      rw [State.haltLane_false_lane]
      split
      · exact .inr (by simp)
      next other =>
        have ne : n ≠ m := fun same => other ⟨same, State.lt_of_active active⟩
        simpa [ne] using h
    next idle =>
      rcases h with h | h
      · rcases List.mem_cons.mp h with rfl | h
        · exact .inr idle
        · exact .inl h
      · exact .inr h

theorem State.loseCartridge_keepsAll (s : State) : KeepsAll s s.loseCartridge := by
  unfold State.loseCartridge
  split
  · exact keepsAll_refl s
  · dsimp only
    have closed (t : State) : KeepsAll t
        ((((t.discardList true).spindleOff).notify (.mediaGone true)).answerUnloads).becomeEmpty :=
      ((((keepsAll_of_same (t.discardList_same true)).trans (keepsAll_of_same (State.spindleOff_same _))).trans
        (keepsAll_of_same (State.notify_same _ _))).trans (keepsAll_of_same (State.answerUnloads_same _))).trans
        (keepsAll_of_same (State.mapDrive_same _ _))
    refine KeepsAll.trans ?_ (closed _)
    change KeepsAll s (State.haltActive (.outcome .mediaGone .none) laneNumbers _)
    have cut : Keeps s ((s.cutHead).mapHead fun h => { h with track := none, bias := .unset }) :=
      ((keepsAll_of_same s.cutHead_same).trans (keepsAll_of_same (State.mapHead_same _ _))).toKeeps
    refine keepsAll_of_none ((cut.trans (keeps_foldl _ State.loseItem_keeps _ _)).trans
      (State.haltActive_keeps _ _ _)) fun law n hn => ?_
    by_contra posted
    refine State.haltActive_not_active _ _ _ n (.inl ?_) ((law.1 n hn).1 posted)
    rw [State.laneNumbers_eq]
    simp
    omega

theorem Lane.restarted_law (l : Lane) : LaneLaw l.restarted := by simp [LaneLaw, Lane.restarted]

/-- RESTART leaves no item, no stop and no pending post (R94, R151, R177). -/
theorem keepsAll_emptied (s : State) :
    KeepsAll s (((s.setQueue []).setSlots (s.slots.map Slot.release)).setLanes (s.lanes.map Lane.restarted)) := by
  have lane (n : Nat) : LaneLaw ((s.lanes.map Lane.restarted).getD n Lane.reset) ∧
      ((s.lanes.map Lane.restarted).getD n Lane.reset).pendingPost = none := by
    rw [List.getD_eq_getElem?_getD, List.getElem?_map]
    cases s.lanes[n]? with
    | none => exact ⟨by simp [LaneLaw, Lane.reset], rfl⟩
    | some l => exact ⟨l.restarted_law, rfl⟩
  refine keepsAll_of_none ⟨id, fun _ => ⟨Nat.zero_le _, by simp⟩, fun h => ?_,
    fun _ => ⟨fun n _ => (lane n).1, List.nodup_nil, by simp⟩⟩ fun _ n _ => (lane n).2
  simpa [ShapeLaw] using h

theorem State.restartAll_keepsAll (s : State) : KeepsAll s s.restartAll := by
  have reading (t : State) : KeepsAll t (match s.head.task with
      | .controlRead r => t.startControlRead r.again
      | .none => t
      | .item => t
      | .writeBack _ => t) := by
    split
    · exact keepsAll_of_same (State.startControlRead_same _ _)
    all_goals exact keepsAll_refl t
  unfold State.restartAll
  dsimp only
  refine KeepsAll.trans ?_ (reading _)
  refine KeepsAll.trans ?_ (keepsAll_of_same (State.mapDrive_same _ _))
  refine KeepsAll.trans ?_ (keepsAll_of_same (State.mapList_same _ _))
  refine KeepsAll.trans ?_ (keepsAll_setFault _ _ fun _ => rfl)
  refine KeepsAll.trans ?_ (keepsAll_emptied _)
  exact (keepsAll_of_same s.cutHead_same).trans (keepsAll_of_same (State.mapHead_same _ _))

/-! ### Data frames -/

theorem State.acceptFrame_keepsAll (it : WorkItem) (k : Nat) (d : Block) (s : State) :
    KeepsAll s (s.acceptFrame it k d) := by
  unfold State.acceptFrame
  dsimp only
  refine (keepsAll_setSlots s (fillSlot it.id k .full d s.slots) (fillSlot_length ..)).trans ?_
  split
  · refine KeepsAll.trans ?_ (keepsAll_of_same (State.formRun_same _))
    exact keepsAll_of_eq rfl rfl rfl rfl rfl rfl rfl rfl
  · exact keepsAll_refl _

theorem State.takeData_keepsAll (route : Route) (index : Word16) (d : Block) (s : State) :
    KeepsAll s (s.takeData route index d) := by
  unfold State.takeData
  split
  · exact keepsAll_of_same (s.notify_same _)
  · split
    · exact s.endFromOutside_keepsAll _ _
    · split
      · exact s.acceptFrame_keepsAll _ _ _
      · exact s.endFromOutside_keepsAll _ _

theorem State.dataOrder_keepsAll (route : Route) (index : Word16) (d : Block) (s : State) :
    KeepsAll s (s.dataOrder route index d) := by
  unfold State.dataOrder
  split
  · exact s.takeData_keepsAll _ _ _
  · exact keepsAll_refl s

theorem State.dataExpires_keepsAll (s : State) : KeepsAll s s.dataExpires := by
  unfold State.dataExpires
  split
  · exact s.endFromOutside_keepsAll _ _
  · exact keepsAll_refl s

theorem State.beginSend_keepsAll (s : State) : KeepsAll s s.beginSend := by
  unfold State.beginSend
  split
  · exact keepsAll_refl s
  · split
    · exact keepsAll_setSlots s _ (moveSlot_length ..)
    · exact keepsAll_refl s

theorem State.dataProduced_keepsAll (s : State) : KeepsAll s s.dataProduced := by
  unfold State.dataProduced
  split
  · exact keepsAll_refl s
  next it rest hq =>
    split
    · exact keepsAll_refl s
    next t _ =>
      split
      · dsimp only
        have produced := ((keepsAll_of_same (s.produce_same (.data t it.sent (slotData it.id it.sent s.slots)))).trans
          (keepsAll_setFront _ it { it with sent := it.sent + 1 } rest hq rfl)).trans
          (keepsAll_setSlots _ (freeSlot it.id it.sent s.slots) (freeSlot_length ..))
        split
        · exact produced.settle
        · split
          · exact (produced.toKeeps.trans (State.finishItem_keeps _ _ _ _ _)).settle
          · exact produced.settle
      · exact keepsAll_refl s

theorem State.sendFrame_same (s : State) : SameOutside { outbound := true, line := true } s s.sendFrame := by
  unfold State.sendFrame
  split <;> simp [SameOutside]

/-! ### The orders -/

theorem State.handOver_keepsAll (kind cls tag : Byte) (lengthOk service : Bool) (owner : State → State)
    (s : State) (h : KeepsAll s (owner s)) : KeepsAll s (s.handOver kind cls tag lengthOk service owner) := by
  unfold State.handOver
  split
  · exact keepsAll_of_same (s.refuse_same _ _ _)
  · exact h

theorem State.enqueue_keepsAll (okind tag : Byte) (kind : ItemKind) (extent first : Option Nat) (count : Nat)
    (s : State) : KeepsAll s (s.enqueue okind tag kind extent first count) := by
  unfold State.enqueue
  split
  next free => exact (keeps_addItem s _ (of_decide_eq_true free.1 : s.queue.length < 8) rfl rfl).settle
  · exact keepsAll_of_same (s.refuse_same _ _ _)

theorem State.refuseViolation_keepsAll (okind tag : Byte) (a : Access) (c : CauseSet) (s : State)
    (some : c.any = true) : KeepsAll s (s.refuseViolation okind tag a c) := by
  have answered (t : State) : KeepsAll t (t.answer okind tag .violation (.causes c)) :=
    keepsAll_of_same (t.answer_same _ _ _ _)
  unfold State.refuseViolation
  dsimp only
  split
  · exact ((s.recordViolation_keeps none a c some).trans (answered _).toKeeps).settle
  next calm => exact (s.recordViolation_keepsAll none a c some (Bool.eq_false_iff.mpr calm)).trans (answered _)

theorem State.acceptAccess_keepsAll (okind cls tag : Byte) (kind : ItemKind) (akind : AccessKind)
    (extent first count : Nat) (s : State) :
    KeepsAll s (s.acceptAccess okind cls tag kind akind extent first count) := by
  unfold State.acceptAccess
  split
  · exact keepsAll_of_same (s.refuse_same _ _ _)
  · dsimp only
    split
    next violates => exact s.refuseViolation_keepsAll _ _ _ _ violates
    · refine (s.edgeCheck_keepsAll (orderAccess akind cls tag extent first count)).trans ?_
      split
      · exact keepsAll_of_same (State.refuse_same _ _ _ _)
      · exact State.enqueue_keepsAll _ _ _ _ _ _ _

theorem State.acceptControl_keepsAll (okind tag : Byte) (kind : ItemKind) (s : State) :
    KeepsAll s (s.acceptControl okind tag kind) := by
  unfold State.acceptControl
  split
  · exact keepsAll_of_same (s.refuse_same _ _ _)
  · exact s.enqueue_keepsAll _ _ _ _ _ _

theorem State.unloadOrder_keepsAll (cls tag : Byte) (params : List Byte) (s : State) :
    KeepsAll s (s.unloadOrder cls tag params) := by
  refine s.handOver_keepsAll _ _ _ _ _ _ ?_
  split
  · exact keepsAll_of_same (s.refuse_same _ _ _)
  · exact keepsAll_of_same (s.mapDrive_same _)
  all_goals exact (keepsAll_of_same (s.mapDrive_same _)).trans (State.startUnload_keepsAll _)

theorem State.startLaneChecked_keepsAll (cls tag : Byte) (n g : Nat) (s : State) :
    KeepsAll s (s.startLaneChecked cls tag n g) := by
  have refused (c : Code) : KeepsAll s (s.refuse Kind.startLane tag c) := keepsAll_of_same (s.refuse_same _ _ _)
  unfold State.startLaneChecked
  split
  · exact refused _
  split
  · exact refused _
  split
  · exact refused _
  split
  · exact refused _
  next startable =>
    split
    · exact refused _
    dsimp only
    split
    next violates => exact s.refuseViolation_keepsAll _ _ _ _ violates
    split
    · exact refused _
    refine KeepsAll.trans ?_ (keepsAll_of_same (State.answer_same _ _ _ _ _))
    have stops : (s.lane n).stops = [] := by
      have : s.laneStartable n = true := by simpa using startable
      simp only [State.laneStartable, Bool.and_eq_true, decide_eq_true_eq] at this
      exact this.2
    refine keepsAll_setLane s n _ (fun _ => ⟨fun _ => rfl, fun h => absurd stops h⟩) (.inr rfl)

theorem State.joinStop_keepsAll (n : Nat) (tag : Byte) (s : State)
    (stopping : (s.lane n).state = .draining ∨ (s.lane n).state = .halted) : KeepsAll s (s.joinStop n tag) :=
  keepsAll_setLane s n _ (fun law => ⟨law.1, fun _ => stopping⟩) (.inl rfl)

theorem State.stopAtOnce_keepsAll (n : Nat) (tag : Byte) (s : State)
    (stops : LaneLaw (s.lane n) → (s.lane n).stops = [])
    (post : LaneLaw (s.lane n) → (s.lane n).pendingPost = none) : KeepsAll s (s.stopAtOnce n tag) := by
  refine KeepsAll.trans ?_ (keepsAll_of_same (State.produce_same _ _))
  exact keepsAll_setLane s n _ (fun law => ⟨fun h => absurd (post law) h, fun h => absurd (stops law) h⟩) (.inl rfl)

theorem LaneLaw.unstopped {l : Lane} (law : LaneLaw l) (h : l.state = .active ∨ l.state = .idle) : l.stops = [] := by
  by_contra stops
  have := law.2 stops
  rcases h with h | h <;> simp [h] at this

theorem LaneLaw.unposted_of {l : Lane} (law : LaneLaw l) (h : l.state ≠ .active) : l.pendingPost = none := by
  by_contra posted
  exact h (law.1 posted)

/-- A lane just set reads as it was set, or, outside the table, as a lane at reset (R137). -/
theorem State.lane_setLane_self (s : State) (n : Nat) (l : Lane) :
    (s.setLane n l).lane n = l ∨ (s.setLane n l).lane n = Lane.reset := by
  rw [State.lane_setLane]
  split
  · exact .inl rfl
  next outside =>
    refine .inr ?_
    simp only [true_and, Nat.not_lt] at outside
    simp [State.lane, List.getD, List.getElem?_eq_none outside]

theorem State.stopActive_keepsAll (n : Nat) (tag : Byte) (s : State) (active : (s.lane n).state = .active) :
    KeepsAll s (s.stopActive n tag) := by
  unfold State.stopActive
  dsimp only
  refine Keeps.settle ?_
  have lane : (s.removeWaiting n).lane n = s.lane n := rfl
  have dropped := (s.removeWaiting_keeps n).trans (keeps_setLane _ n
    { (s.removeWaiting n).lane n with pendingPost := none } LaneLaw.unposted)
  have inTable : n < (s.removeWaiting n).lanes.length := State.lt_of_active active
  have now : ((s.removeWaiting n).setLane n { (s.removeWaiting n).lane n with pendingPost := none }).lane n =
      { s.lane n with pendingPost := none } := by rw [State.lane_setLane, if_pos ⟨rfl, inTable⟩, lane]
  generalize (s.removeWaiting n).setLane n { (s.removeWaiting n).lane n with pendingPost := none } = t at dropped now
  refine dropped.trans ?_
  split
  · refine (t.stopAtOnce_keepsAll n tag (fun law => law.unstopped (.inl ?_)) fun _ => ?_).toKeeps
    · rw [now]; exact active
    · rw [now]
  · have drains : Keeps t (t.setLane n { t.lane n with state := .draining }) := by
      refine keeps_setLane t n _ fun law => ⟨fun h => absurd ?_ h, fun _ => .inl rfl⟩
      rw [now]
    refine drains.trans (keeps_setLane _ n _ fun law => ⟨law.1, fun _ => ?_⟩)
    rw [State.lane_setLane, if_pos ⟨rfl, State.lt_of_active (by rw [now]; exact active)⟩]
    exact .inl rfl

theorem State.stopLaneOrder_keepsAll (cls tag : Byte) (params : List Byte) (s : State) :
    KeepsAll s (s.stopLaneOrder cls tag params) := by
  refine s.handOver_keepsAll _ _ _ _ _ _ ?_
  dsimp only
  generalize field params 0 1 = n
  split
  · exact keepsAll_of_same (s.refuse_same _ _ _)
  · split
    next active => exact s.stopActive_keepsAll n tag active
    next draining => exact s.joinStop_keepsAll n tag (.inl draining)
    next halted =>
      split
      next stops => exact s.stopAtOnce_keepsAll n tag (fun _ => stops) fun law => law.unposted_of (by simp [halted])
      next => exact s.joinStop_keepsAll n tag (.inr halted)
    next idle =>
      exact s.stopAtOnce_keepsAll n tag (fun law => law.unstopped (.inr idle)) fun law =>
        law.unposted_of (by simp [idle])

/-! ### Lane posts -/

theorem State.anyPending_iff (s : State) : s.anyPending = true ↔ ∃ n < 4, (s.lane n).pendingPost ≠ none := by
  rw [State.anyPending, State.lowestPending_eq, State.laneNumbers_eq, Option.isSome_iff_ne_none, ne_eq,
    List.head?_eq_none_iff, List.filterMap_eq_nil_iff]
  simp only [Option.map_eq_none_iff, not_forall]
  constructor
  · rintro ⟨n, mem, posted⟩
    exact ⟨n, by simp at mem; omega, posted⟩
  · rintro ⟨n, hn, posted⟩
    exact ⟨n, by simp; omega, posted⟩

theorem State.placeFree_iff (s : State) : s.placeFree = true ↔ s.queue.length < 8 := decide_eq_true_iff

/-- The next post of an ACTIVE lane takes a free place, or waits while none is free (R84, R142). -/
theorem State.postPiece_keepsAll (n : Nat) (p : Piece) (s : State) (active : (s.lane n).state = .active) :
    KeepsAll s (s.postPiece n p) := by
  unfold State.postPiece
  dsimp only
  have advanced : KeepsAll s (s.setLane n ((s.lane n).advance (s.laneDescriptor n) p.count)) :=
    keepsAll_setLane s n _ id (.inl rfl)
  have still : ((s.setLane n ((s.lane n).advance (s.laneDescriptor n) p.count)).lane n).state = .active := by
    rw [State.lane_setLane, if_pos ⟨rfl, State.lt_of_active active⟩]
    exact active
  generalize s.setLane n ((s.lane n).advance (s.laneDescriptor n) p.count) = t at advanced still
  split
  next free =>
    exact (advanced.toKeeps.trans (State.addPiece_keeps _ _ _ (t.placeFree_iff.mp free.1))).settle
  next taken =>
    have posted : Keeps t (t.setLane n { t.lane n with pendingPost := some p }) :=
      keeps_setLane t n _ fun law => ⟨fun _ => still, law.2⟩
    refine advanced.trans ⟨posted, fun w => ?_⟩
    rw [waitingLaw_iff] at w ⊢
    refine ⟨posted.lanes w.1, fun room => absurd ⟨t.placeFree_iff.mpr room, ?_⟩ taken⟩
    rw [Bool.eq_false_iff, ne_eq, State.anyPending_iff]
    rintro ⟨m, hm, h⟩
    exact h (w.2 room m hm)

theorem State.edgeCheck_lane (a : Access) (s : State) (n : Nat) : (s.edgeCheck a).lane n = s.lane n := by
  obtain ⟨-, -, -, -, -, -, -, -, -, lanes, -⟩ := s.edgeCheck_same a
  simp only [State.lane, lanes rfl]

theorem State.mayPost_active {s : State} {n : Nat} (may : s.mayPost n = true) : (s.lane n).state = .active := by
  simp only [State.mayPost, Bool.and_eq_true, decide_eq_true_eq] at may
  obtain ⟨⟨⟨⟨⟨-, active⟩, -⟩, -⟩, -⟩, -⟩ := may
  exact active

theorem State.postLane_keepsAll (n : Nat) (s : State) : KeepsAll s (s.postLane n) := by
  unfold State.postLane
  split
  next may =>
    dsimp only
    split
    next violates =>
      have recorded (a : Access) := s.recordViolation_keeps (some n) a _ violates
      refine Keeps.settle ?_
      split
      · exact recorded _
      · exact (recorded _).trans (State.haltLane_keeps _ _ _ _)
    · split
      · exact (s.haltLane_keeps _ _ _).settle
      · refine (s.edgeCheck_keepsAll _).trans (State.postPiece_keepsAll _ _ _ ?_)
        rw [State.edgeCheck_lane]
        exact State.mayPost_active may
  · exact keepsAll_refl s

/-! ### Frames passed on -/

theorem State.loadExtents_keepsAll (tag : Byte) (f : Nat) (es : List Extent) (s : State) :
    KeepsAll s (s.loadExtents tag f es) := by
  unfold State.loadExtents
  split
  · exact (keepsAll_setExtents s _ (applyEntries_length ..)).trans (keepsAll_of_same (State.answer_same _ _ _ _ _))
  · exact keepsAll_of_same (s.refuse_same _ _ _)

theorem State.loadDescriptors_keepsAll (tag : Byte) (g : Nat) (ds : List Descriptor) (s : State) :
    KeepsAll s (s.loadDescriptors tag g ds) := by
  unfold State.loadDescriptors
  split
  · refine KeepsAll.trans ?_ (keepsAll_of_same (State.answer_same _ _ _ _ _))
    exact keepsAll_of_eq rfl rfl rfl rfl rfl rfl rfl (applyEntries_length ..)
  · exact keepsAll_of_same (s.refuse_same _ _ _)

theorem State.passOn_keepsAll (i : Instr) (s : State) : KeepsAll s (s.passOn i) := by
  have answers (kind tag : Byte) (code : Code) (body : Body) (t : State) : KeepsAll t (t.answer kind tag code body) :=
    keepsAll_of_same (t.answer_same _ _ _ _)
  have refuses (kind tag : Byte) (code : Code) (t : State) : KeepsAll t (t.refuse kind tag code) :=
    answers _ _ _ _ t
  cases i with
  | fetch c t p => exact s.handOver_keepsAll _ _ _ _ _ _ (s.acceptAccess_keepsAll _ _ _ _ _ _ _ _)
  | place c t p => exact s.handOver_keepsAll _ _ _ _ _ _ (s.acceptAccess_keepsAll _ _ _ _ _ _ _ _)
  | blank c t p => exact s.handOver_keepsAll _ _ _ _ _ _ (s.acceptAccess_keepsAll _ _ _ _ _ _ _ _)
  | storeExtents c t p => exact s.handOver_keepsAll _ _ _ _ _ _ (s.acceptControl_keepsAll _ _ _)
  | flushList c t p => exact s.handOver_keepsAll _ _ _ _ _ _ (s.acceptControl_keepsAll _ _ _)
  | unload c t p => exact s.unloadOrder_keepsAll c t p
  | startLane c t p => exact s.handOver_keepsAll _ _ _ _ _ _ (s.startLaneChecked_keepsAll _ _ _ _)
  | stopLane c t p => exact s.stopLaneOrder_keepsAll c t p
  | loadExtents c t p => exact s.handOver_keepsAll _ _ _ _ _ _ (s.loadExtents_keepsAll _ _ _)
  | showExtents c t p =>
    simp only [State.passOn, State.showExtentsOrder]
    refine s.handOver_keepsAll _ _ _ _ _ _ ?_
    split
    · exact answers _ _ _ _ s
    · exact refuses _ _ _ s
  | markAll c t p =>
    simp only [State.passOn, State.markAllOrder]
    refine s.handOver_keepsAll _ _ _ _ _ _ (KeepsAll.trans ?_ (answers _ _ _ _ _))
    exact keepsAll_setExtents s _ (List.length_map _)
  | showList c t p =>
    simp only [State.passOn, State.showListOrder]
    refine s.handOver_keepsAll _ _ _ _ _ _ ?_
    split
    · exact refuses _ _ _ s
    · split
      · exact answers _ _ _ _ s
      · exact refuses _ _ _ s
  | loadDescriptors c t p => exact s.handOver_keepsAll _ _ _ _ _ _ (s.loadDescriptors_keepsAll _ _ _)
  | showDescriptors c t p =>
    simp only [State.passOn, State.showDescriptorsOrder]
    refine s.handOver_keepsAll _ _ _ _ _ _ ?_
    split
    · exact answers _ _ _ _ s
    · exact refuses _ _ _ s
  | showFault c t p => exact s.handOver_keepsAll _ _ _ _ _ _ (answers _ _ _ _ s)
  | clearFault c t p =>
    simp only [State.passOn, State.clearFaultOrder]
    refine s.handOver_keepsAll _ _ _ _ _ _ (KeepsAll.trans ?_ (answers _ _ _ _ _))
    exact keepsAll_setFault s FaultRecord.empty fun _ => rfl
  | setProfile c t p =>
    simp only [State.passOn, State.setProfileOrder]
    refine s.handOver_keepsAll _ _ _ _ _ _ (KeepsAll.trans ?_ (answers _ _ _ _ _))
    exact keepsAll_of_eq rfl rfl rfl rfl rfl rfl rfl rfl
  | showState c t p => exact s.handOver_keepsAll _ _ _ _ _ _ (answers _ _ _ _ s)
  | restart c t p =>
    simp only [State.passOn, State.restartOrder]
    exact s.handOver_keepsAll _ _ _ _ _ _ (s.restartAll_keepsAll.trans (answers _ _ _ _ _))
  | unknownOrder k c t p => exact refuses _ _ _ s
  | dataFrame route index d => exact s.dataOrder_keepsAll route index d
  | _ => exact keepsAll_refl s

theorem State.passOnAll_keepsAll (as : List (List Byte)) (s : State) : KeepsAll s (s.passOnAll as) := by
  induction as generalizing s with
  | nil => exact keepsAll_refl s
  | cons a as ih =>
    unfold State.passOnAll
    split
    · exact ih s
    · exact (s.passOn_keepsAll _).trans (ih _)

theorem keepsAll_setReceiver (s : State) (r : Receiver) : KeepsAll s (s.setReceiver r) :=
  keepsAll_of_eq rfl rfl rfl rfl rfl rfl rfl rfl

theorem State.receive_keepsAll (wire : List Byte) (s : State) : KeepsAll s (s.receive wire) :=
  (keepsAll_setReceiver s _).trans (State.passOnAll_keepsAll _ _)

/-! ### The head's own steps -/

theorem State.beginItem_keepsAll (it : WorkItem) (s : State) : KeepsAll s (s.beginItem it) := by
  have flush : KeepsAll s (if s.list.dirty then s.startWriteBack
      else (s.mapFront fun it => { it with blocksDone := 1 }).endItem .ok .none) := by
    split
    · exact keepsAll_of_same s.startWriteBack_same
    · refine KeepsAll.trans ?_ (State.endItem_keepsAll _ _ _)
      exact s.mapFront_keepsAll _ fun _ => rfl
  unfold State.beginItem
  cases it.kind with
  | fetch => exact keepsAll_of_same s.formRun_same
  | place => exact keepsAll_of_same s.formRun_same
  | blank => exact keepsAll_of_same s.formRun_same
  | store => exact keepsAll_of_same (s.startRun_same _ _)
  | flush => exact flush

theorem State.takeUp_keepsAll (s : State) : KeepsAll s s.takeUp := by
  unfold State.takeUp
  split
  · exact keepsAll_refl s
  next it rest hq =>
    split
    · refine KeepsAll.trans ?_ (State.beginItem_keepsAll it _)
      refine KeepsAll.trans ?_ (keepsAll_of_same (State.mapHead_same _ _))
      exact keepsAll_setFront s it _ rest hq rfl
    · exact keepsAll_refl s

theorem State.serveRequest_same (s : State) :
    SameOutside { list := true, head := true, port := true } s s.serveRequest := by
  unfold State.serveRequest
  split
  · dsimp only
    split
    · exact (((s.mapList_same _).mono (by decide)).trans ((State.mapHead_same _ _).mono (by decide))).trans
        ((State.startWriteBack_same _).mono (by decide))
    · exact (s.mapList_same _).mono (by decide)
  · exact sameOutside_refl _ _

/-- In a state that meets the law of the waiting lanes no place is due outside an event (R84). -/
theorem State.pendingPost_keepsAll (s : State) :
    KeepsAll s (if s.placeFree ∧ s.anyPending = true then s.placeOnePending.walk.resumeFetch else s) := by
  split
  next due =>
    have keeps : Keeps s s.placeOnePending.walk.resumeFetch :=
      (s.placeOnePending_keeps.trans (State.walk_keepsAll _).toKeeps).trans
        (keepsAll_of_same (State.resumeFetch_same _)).toKeeps
    refine ⟨keeps, fun w => ?_⟩
    obtain ⟨n, hn, posted⟩ := s.anyPending_iff.mp due.2
    exact absurd (((waitingLaw_iff s).mp w).2 (s.placeFree_iff.mp due.1) n hn) posted
  · exact keepsAll_refl s

/-! ### The reset line and the clock -/

theorem State.reset_lane (n : Nat) : State.reset.lane n = Lane.reset := by
  unfold State.lane State.reset
  rw [List.getD_eq_getElem?_getD, List.getElem?_replicate]
  split <;> rfl

theorem waitingLaw_reset : WaitingLaw State.reset := by
  refine ⟨fun n _ h => ?_, fun _ n _ => ?_, fun n _ h => ?_, List.nodup_nil, by simp [State.reset]⟩ <;>
    simp [State.reset_lane, Lane.reset] at *

theorem State.holdReset_keepsAll (s : State) : KeepsAll s s.holdReset :=
  ⟨⟨fun _ => rfl, fun _ => ⟨Nat.zero_le _, by simp [State.holdReset, State.reset]⟩, fun _ => ⟨rfl, rfl, rfl, rfl⟩,
    fun _ => ((waitingLaw_iff _).mp waitingLaw_reset).1⟩, fun _ => waitingLaw_reset⟩

theorem State.releaseReset_keepsAll (p : Straps) (cartridge : Option Bool) (s : State) :
    KeepsAll s (s.releaseReset p cartridge) := by
  have sampled : KeepsAll s (((s.setHeld false).setProfile (Straps.profile p)).setReceiver Receiver.hunting) :=
    keepsAll_of_eq rfl rfl rfl rfl rfl rfl rfl rfl
  unfold State.releaseReset
  cases cartridge with
  | none => exact sampled
  | some tab => exact sampled.trans (keepsAll_of_same (State.insert_same tab _))

theorem State.elapse_keepsAll (s : State) : KeepsAll s s.elapse := keepsAll_of_eq rfl rfl rfl rfl rfl rfl rfl rfl

theorem State.expire_keepsAll (due : Bool) (effect : State → State) (s : State) (h : ∀ t, KeepsAll t (effect t)) :
    KeepsAll s (s.expire due effect) := by
  unfold State.expire
  split
  · exact h s
  · exact keepsAll_refl s

theorem State.tick_keepsAll (s : State) : KeepsAll s s.tick := by
  have spinUp (t : State) : KeepsAll t t.spinUpExpires := keepsAll_of_same t.spinUpExpires_same
  unfold State.tick
  split
  · exact keepsAll_refl s
  · dsimp only
    exact (((((s.elapse_keepsAll.trans (State.expire_keepsAll _ _ _ spinUp)).trans
      (State.expire_keepsAll _ _ _ State.seekExpires_keepsAll)).trans
      (State.expire_keepsAll _ _ _ State.biasExpires_keepsAll)).trans
      (State.expire_keepsAll _ _ _ State.holdExpires_keepsAll)).trans
      (State.expire_keepsAll _ _ _ State.dataExpires_keepsAll)).trans
      (State.expire_keepsAll _ _ _ State.indexLoss_keepsAll)

/-! ### Every command and every step -/

theorem State.unlessHeld_keepsAll {s t : State} (f : State → State) (h : KeepsAll s (f s))
    (run : s.unlessHeld f = .next t) : KeepsAll s t := by
  obtain rfl := Host.Outcome.next.inj run
  split
  · exact keepsAll_refl s
  · exact h

theorem State.takeFrame_keepsAll {s t : State} (f : State → State) (h : ∀ u, KeepsAll u (f u))
    (run : s.takeFrame f = .next t) : KeepsAll s t :=
  State.unlessHeld_keepsAll (fun s => f s.frameArrived) ((keepsAll_setReceiver s Receiver.hunting).trans (h _)) run

theorem exec_keepsAll (i : Instr) {s t : State} (run : exec i s = .next t) : KeepsAll s t := by
  have passes (i : Instr) (u : State) : KeepsAll u (u.passOn i) := u.passOn_keepsAll i
  cases i with
  | fetch c g p => exact State.takeFrame_keepsAll _ (passes (.fetch c g p)) run
  | place c g p => exact State.takeFrame_keepsAll _ (passes (.place c g p)) run
  | blank c g p => exact State.takeFrame_keepsAll _ (passes (.blank c g p)) run
  | storeExtents c g p => exact State.takeFrame_keepsAll _ (passes (.storeExtents c g p)) run
  | flushList c g p => exact State.takeFrame_keepsAll _ (passes (.flushList c g p)) run
  | unload c g p => exact State.takeFrame_keepsAll _ (passes (.unload c g p)) run
  | startLane c g p => exact State.takeFrame_keepsAll _ (passes (.startLane c g p)) run
  | stopLane c g p => exact State.takeFrame_keepsAll _ (passes (.stopLane c g p)) run
  | loadExtents c g p => exact State.takeFrame_keepsAll _ (passes (.loadExtents c g p)) run
  | showExtents c g p => exact State.takeFrame_keepsAll _ (passes (.showExtents c g p)) run
  | markAll c g p => exact State.takeFrame_keepsAll _ (passes (.markAll c g p)) run
  | showList c g p => exact State.takeFrame_keepsAll _ (passes (.showList c g p)) run
  | loadDescriptors c g p => exact State.takeFrame_keepsAll _ (passes (.loadDescriptors c g p)) run
  | showDescriptors c g p => exact State.takeFrame_keepsAll _ (passes (.showDescriptors c g p)) run
  | showFault c g p => exact State.takeFrame_keepsAll _ (passes (.showFault c g p)) run
  | clearFault c g p => exact State.takeFrame_keepsAll _ (passes (.clearFault c g p)) run
  | setProfile c g p => exact State.takeFrame_keepsAll _ (passes (.setProfile c g p)) run
  | showState c g p => exact State.takeFrame_keepsAll _ (passes (.showState c g p)) run
  | restart c g p => exact State.takeFrame_keepsAll _ (passes (.restart c g p)) run
  | unknownOrder k c g p => exact State.takeFrame_keepsAll _ (passes (orderOf k c g p)) run
  | badFrame wire => exact State.unlessHeld_keepsAll _ (s.receive_keepsAll wire) run
  | dataFrame route index d => exact State.takeFrame_keepsAll _ (passes (.dataFrame route index d)) run
  | sendBlock => exact State.unlessHeld_keepsAll _ s.beginSend_keepsAll run
  | dataFrameProduced => exact State.unlessHeld_keepsAll _ s.dataProduced_keepsAll run
  | frameSent => exact State.unlessHeld_keepsAll _ (keepsAll_of_same s.sendFrame_same) run
  | sectorIdArrival track sector mark => exact State.unlessHeld_keepsAll _ (s.sectorId_keepsAll _ _ _) run
  | indexArrival elapsed => exact State.unlessHeld_keepsAll _ (s.indexArrives_keepsAll _) run
  | readDataEvent track sector result => exact State.unlessHeld_keepsAll _ (s.readData_keepsAll _ _ _) run
  | verifyCompareResult track sector isMatch => exact State.unlessHeld_keepsAll _ (s.verifyResult_keepsAll _ _ _) run
  | seekComplete => exact State.unlessHeld_keepsAll _ (keepsAll_of_same s.seekArrives_same) run
  | biasReady => exact State.unlessHeld_keepsAll _ (keepsAll_of_same s.biasArrives_same) run
  | insertion tab => exact State.unlessHeld_keepsAll _ (keepsAll_of_same (s.insert_same tab)) run
  | ejectButton =>
    refine State.unlessHeld_keepsAll
      (fun s => if s.drive.state = .empty ∨ s.drive.state = .unloading then s else s.startUnload) ?_ run
    split
    · exact keepsAll_refl s
    · exact s.startUnload_keepsAll
  | cartridgeLost => exact State.unlessHeld_keepsAll _ s.loseCartridge_keepsAll run
  | hardwareResetAsserted => exact Host.Outcome.next.inj run ▸ s.holdReset_keepsAll
  | hardwareResetReleased straps cartridge => exact Host.Outcome.next.inj run ▸ s.releaseReset_keepsAll _ _
  | seekTimeout => exact State.unlessHeld_keepsAll _ s.seekExpires_keepsAll run
  | biasTimeout => exact State.unlessHeld_keepsAll _ s.biasExpires_keepsAll run
  | holdTimeout => exact State.unlessHeld_keepsAll _ s.holdExpires_keepsAll run
  | spinUpTimeout => exact State.unlessHeld_keepsAll _ (keepsAll_of_same s.spinUpExpires_same) run
  | dataTimeout => exact State.unlessHeld_keepsAll _ s.dataExpires_keepsAll run
  | indexLost => exact State.unlessHeld_keepsAll _ s.indexLoss_keepsAll run
  | sectorMissing => exact State.unlessHeld_keepsAll _ s.missingEnds_keepsAll run
  | itemTakeUp => exact State.unlessHeld_keepsAll _ s.takeUp_keepsAll run
  | writeBackRequestServed => exact State.unlessHeld_keepsAll _ (keepsAll_of_same s.serveRequest_same) run
  | lanePost n => exact State.unlessHeld_keepsAll _ (s.postLane_keepsAll n) run
  | pendingPostPlaced => exact State.unlessHeld_keepsAll _ s.pendingPost_keepsAll run
  | unloadCompletion => exact State.unlessHeld_keepsAll _ (keepsAll_of_same s.completeUnload_same) run
  | abort wire => exact State.unlessHeld_keepsAll _ (s.receive_keepsAll wire) run

/-- Every step keeps the laws of the record, the queue, the table sizes and the waiting lanes. -/
theorem step_keepsAll {s t : State} (run : step s = .next t) : KeepsAll s t := by
  unfold step at run
  split at run
  · exact Host.Outcome.next.inj run ▸ s.tick_keepsAll
  next c rest _ =>
    have waiting : KeepsAll s (s.setPending rest) := keepsAll_of_eq rfl rfl rfl rfl rfl rfl rfl rfl
    exact waiting.trans (exec_keepsAll c run)

end Sys2Proof.Machine

section

open Sys2Proof Sys2Proof.Machine Sys2Proof.Safety

/-- Settles O6: a step lemma for the four laws together, of which this is the record's. -/
theorem everyStepKeepsTheFaultLaw : Obligations.EveryStepKeepsTheFaultLaw :=
  fun _ _ law run => (step_keepsAll run).fault law

/-- Settles O7: items join at the tail in a free place, leave anywhere, and are replaced at the front alone. -/
theorem everyStepKeepsTheQueueLaw : Obligations.EveryStepKeepsTheQueueLaw :=
  fun _ _ law run => (step_keepsAll run).queue law

/-- Settles O8: every operation replaces entries of the tables, and a mount reads 48 of them. -/
theorem everyStepKeepsTheTableSizes : Obligations.EveryStepKeepsTheTableSizes :=
  fun _ _ law run => (step_keepsAll run).shape law

/-- Settles O9: inside an event `OpenLaw` is kept, and what closes the event gives the free places. -/
theorem everyStepKeepsTheWaitingLaw : Obligations.EveryStepKeepsTheWaitingLaw :=
  fun _ _ law run => (step_keepsAll run).waiting law

end
end

section
/-! The link: bytes and fields, the receiver, frames read back, discarded frames and the link tests (O11 to O16). -/

set_option Elab.async false

namespace Sys2Proof.Machine

open Sys2Proof.Safety

/-! ### Fields of a byte list (R6, R172) -/

theorem ofBytes_append (xs ys : List Byte) : ofBytes (xs ++ ys) = ofBytes xs * 256 ^ ys.length + ofBytes ys := by
  induction ys using List.reverseRecOn with
  | nil => simp [ofBytes]
  | append_singleton ys y ih =>
    rw [← List.append_assoc, ofBytes_append_one, ih, ofBytes_append_one, List.length_append, List.length_singleton,
      Nat.pow_succ]
    ring

theorem ofBytes_toBytes (n v : Nat) : ofBytes (toBytes n v) = v % 256 ^ n := by
  induction n with
  | zero => simp [toBytes, ofBytes, Nat.mod_one]
  | succ n ih =>
    have head : ofBytes [BitVec.ofNat 8 (v / 256 ^ n)] = v / 256 ^ n % 256 := by simp [ofBytes]
    rw [toBytes, ← List.singleton_append, ofBytes_append, ih, head, toBytes_length, Nat.pow_succ, Nat.mod_mul]
    ring

/-- A field inside the list is the number of its bytes. -/
theorem field_eq (bs : List Byte) (i n : Nat) (h : i + n ≤ bs.length) :
    field bs i n = ofBytes ((bs.drop i).take n) := by
  have bytes : (List.range n).map (fun k => bs.getD (i + k) 0) = (bs.drop i).take n := by
    refine List.ext_getElem (by simp; omega) fun k hk hk' => ?_
    have inside : i + k < bs.length := by simp at hk'; omega
    simp [List.getD, List.getElem?_eq_getElem inside]
  rw [field, bytes]

theorem field_append_left (xs ys : List Byte) (i n : Nat) (h : i + n ≤ xs.length) :
    field (xs ++ ys) i n = field xs i n := by
  rw [field_eq _ _ _ (by simp; omega), field_eq _ _ _ h, List.drop_append_of_le_length (by omega),
    List.take_append_of_le_length (by simp; omega)]

theorem field_append_right (xs ys : List Byte) (i n : Nat) : field (xs ++ ys) (xs.length + i) n = field ys i n := by
  have byte (k : Nat) : (xs ++ ys).getD (xs.length + i + k) 0 = ys.getD (i + k) 0 := by
    rw [List.getD_append_right _ _ _ _ (by omega)]
    congr 1
    omega
  simp only [field, byte]

/-- A number written to `n` bytes is read back from where they stand. -/
theorem field_toBytes (xs ys : List Byte) (i n v : Nat) (hi : xs.length = i) (hv : v < 256 ^ n) :
    field (xs ++ (toBytes n v ++ ys)) i n = v := by
  subst hi
  rw [← Nat.add_zero xs.length, field_append_right, field_eq _ _ _ (by simp)]
  rw [List.drop_zero, List.take_left' (toBytes_length n v), ofBytes_toBytes, Nat.mod_eq_of_lt hv]

/-! ### The receiver (R163, R164) -/

theorem Receiver.bytes_cons (r : Receiver) (b : Byte) (bs : List Byte) :
    r.bytes (b :: bs) = (((r.byte b).1.bytes bs).1, (r.byte b).2.toList ++ ((r.byte b).1.bytes bs).2) := rfl

theorem Receiver.append_room (st : RxState) (a : List Byte) (b : Byte) (room : a.length < 1042) :
    Receiver.append ⟨st, a⟩ b = ⟨.assembling, a ++ [b]⟩ := if_pos room

theorem Receiver.append_full (st : RxState) (a : List Byte) (b : Byte) (full : 1042 ≤ a.length) :
    Receiver.append ⟨st, a⟩ b = ⟨.hunting, []⟩ := if_neg (by simpa [Config.assemblyTop] using full)

/-- The bytes that stand for one byte of content add it to the assembly. -/
theorem Receiver.bytes_escapeByte (a : List Byte) (b : Byte) (room : a.length < 1042) :
    Receiver.bytes ⟨.assembling, a⟩ (escapeByte b) = (⟨.assembling, a ++ [b]⟩, []) := by
  unfold escapeByte
  split
  next marked =>
    rcases marked with rfl | rfl | rfl <;>
      simp [Receiver.bytes, Receiver.byte, startByte, endByte, escapeMark, Receiver.append_room _ _ _ room]
  next plain =>
    obtain ⟨notStart, notEnd, notEscape⟩ : b ≠ startByte ∧ b ≠ endByte ∧ b ≠ escapeMark := by simpa using plain
    simp [Receiver.bytes, Receiver.byte, notStart, notEnd, notEscape, Receiver.append_room _ _ _ room]

/-- Escaped bytes that fit arrive as they were before escaping. -/
theorem Receiver.bytes_escaped (a bs : List Byte) (room : a.length + bs.length ≤ 1042) :
    Receiver.bytes ⟨.assembling, a⟩ (bs.flatMap escapeByte) = (⟨.assembling, a ++ bs⟩, []) := by
  induction bs generalizing a with
  | nil => simp [Receiver.bytes]
  | cons b bs ih =>
    simp only [List.length_cons] at room
    rw [List.flatMap_cons, Receiver.bytes_append, Receiver.bytes_escapeByte a b (by omega),
      ih (a ++ [b]) (by simp; omega)]
    simp

/-- Bytes that begin with a start byte are taken alike in every state of the receiver (R164). -/
theorem Receiver.bytes_start (r : Receiver) (bs : List Byte) :
    r.bytes (startByte :: bs) = Receiver.bytes ⟨.assembling, []⟩ bs := by
  rw [Receiver.bytes_cons, Receiver.byte_start]
  rfl

/-- The check passes on the content that was sent with its check value (R165). -/
theorem checkedContent_crc (content : List Byte) (some : content ≠ []) :
    checkedContent (content ++ toBytes 2 (crc16 content).toNat) = .some content := by
  have size : (content ++ toBytes 2 (crc16 content).toNat).length - 2 = content.length := by simp
  have long : 3 ≤ (content ++ toBytes 2 (crc16 content).toNat).length := by
    have := List.length_pos_iff.mpr some
    simp
    omega
  have crc := field_toBytes content [] content.length 2 (crc16 content).toNat rfl (crc16 content).isLt
  rw [List.append_nil] at crc
  rw [checkedContent, size, List.take_left]
  exact if_pos ⟨long, crc⟩

/-! ### Frames read back (R165, R166, R170, R172) -/

theorem decodeContent_order (kind cls tag : Byte) (params : List Byte) :
    decodeContent (orderContent kind cls tag params) = some (orderOf kind cls tag params) := rfl

/-- An order of the catalogue is sent as the content of its parts, and its kind spells it. -/
theorem encodeContent_order {i : Instr} {kind cls tag : Byte} {p : List Byte}
    (parts : orderParts i = some (kind, cls, tag, p)) :
    encodeContent i = some (orderContent kind cls tag p) ∧ orderOf kind cls tag p = i := by
  cases i <;> simp only [orderParts, Option.some.injEq, Prod.mk.injEq, reduceCtorEq] at parts <;>
    obtain ⟨rfl, rfl, rfl, rfl⟩ := parts <;> exact ⟨rfl, rfl⟩

theorem orderOf_unknown (kind cls tag : Byte) (params : List Byte) (unknown : kind ∉ catalogue) :
    orderOf kind cls tag params = .unknownOrder kind cls tag params := by
  simp only [catalogue, List.mem_cons, List.not_mem_nil, or_false, not_or] at unknown
  simp [orderOf, unknown]

theorem routeOf_routeContent (route : Route) (fits : routeFits route = true) :
    ∃ kind number, routeContent route = [kind, number] ∧ routeOf kind number = some route := by
  cases route with
  | tag t => exact ⟨_, _, rfl, rfl⟩
  | lane n =>
    have small : n ≤ 255 := of_decide_eq_true fits
    refine ⟨_, _, rfl, ?_⟩
    simp [routeOf]
    omega

theorem word_of_bytes (w : Word16) : w.extractLsb' 8 8 ++ w.extractLsb' 0 8 = w := by
  refine BitVec.eq_of_getLsbD_eq fun i hi => ?_
  rw [BitVec.getLsbD_append]
  by_cases low : i < 8
  · simp [low]
  · have high : i - 8 < 8 := by omega
    have back : 8 + (i - 8) = i := by omega
    simp [low, high, back]

theorem decodeContent_data (route : Route) (index : Word16) (d : Block) (fits : routeFits route = true)
    (whole : d.length = 1024) :
    decodeContent (0x02#8 :: (routeContent route ++ [index.extractLsb' 8 8, index.extractLsb' 0 8] ++ d)) =
      some (.dataFrame route index d) := by
  obtain ⟨kind, number, bytes, read⟩ := routeOf_routeContent route fits
  rw [bytes]
  simp [decodeContent, whole, read, word_of_bytes]

/-! ### Discarded frames (R164, R165) -/

theorem startsFrame_cons {wire : List Byte} (h : startsFrame wire = true) : ∃ bs, wire = startByte :: bs := by
  have h : wire.head? = some startByte := of_decide_eq_true h
  cases wire with
  | nil => simp at h
  | cons b bs => exact ⟨bs, by simp at h; rw [h]⟩

/-- The bytes of a discarded frame complete one assembly, which is passed on to no block. -/
theorem State.receive_badFrame (wire : List Byte) (s : State) (bad : isBadFrame wire = true) :
    s.receive wire = taken s := by
  simp only [isBadFrame, Bool.and_eq_true] at bad
  obtain ⟨⟨starts, -⟩, run⟩ := bad
  obtain ⟨bs, rfl⟩ := startsFrame_cons starts
  rw [Receiver.bytes_start] at run
  unfold State.receive
  rw [Receiver.bytes_start]
  split at run
  next r assembly same =>
    obtain ⟨rfl, discarded⟩ : r = Receiver.hunting ∧ frameOf assembly = none := by simpa using run
    simp [same, State.passOnAll, discarded, taken, Receiver.hunting]
  next => contradiction

theorem State.receive_abort (wire : List Byte) (s : State) (aborts : isAbort wire = true) :
    s.receive wire = taken s := by
  simp only [isAbort, Bool.and_eq_true] at aborts
  obtain ⟨starts, run⟩ := aborts
  obtain ⟨bs, rfl⟩ := startsFrame_cons starts
  have run := of_decide_eq_true run
  rw [Receiver.bytes_start] at run
  unfold State.receive
  rw [Receiver.bytes_start, run]
  rfl

/-! ### The link tests (R166, R170) -/

theorem loadLengthOk_eq (n : Nat) (p : List Byte) :
    loadLengthOk n p = decide (loadLength n p = some p.length) := by
  match p with
  | [] => rfl
  | [_] => rfl
  | f :: k :: bs => simp [loadLengthOk, loadLength, eq_comm]

/-- Every order of the catalogue is handed over with the length that the catalogue gives and its class (R166). -/
theorem exec_handsOver (i : Instr) (kind cls tag : Byte) (p : List Byte) (s : State) (free : s.held = false)
    (parts : orderParts i = some (kind, cls, tag, p)) :
    ∃ owner, exec i s = .next ((taken s).handOver kind cls tag
      (decide (catalogueLength kind p = some p.length)) (serviceKind kind) owner) := by
  have fixed (n : Nat) : decide (some n = some p.length) = decide (p.length = n) := by simp [eq_comm]
  have hands (f owner : State → State) (len : Bool) (service : Bool)
      (same : f (taken s) = (taken s).handOver kind cls tag len service owner)
      (length : len = decide (catalogueLength kind p = some p.length)) (class' : service = serviceKind kind) :
      ∃ owner, s.takeFrame f = .next ((taken s).handOver kind cls tag
        (decide (catalogueLength kind p = some p.length)) (serviceKind kind) owner) :=
    ⟨owner, by rw [State.takeFrame_free s f free, same, length, class']⟩
  cases i <;> simp only [orderParts, Option.some.injEq, Prod.mk.injEq, reduceCtorEq] at parts <;>
    obtain ⟨rfl, rfl, rfl, rfl⟩ := parts
  case loadExtents => exact hands _ _ _ _ rfl (loadLengthOk_eq 8 _) rfl
  case loadDescriptors => exact hands _ _ _ _ rfl (loadLengthOk_eq 12 _) rfl
  all_goals exact hands _ _ _ _ rfl (fixed _).symm rfl

end Sys2Proof.Machine

section

open Sys2Proof Sys2Proof.Machine Sys2Proof.Safety

/-- Settles O5. -/
theorem theStateAfterResetMeetsTheLaws : Obligations.TheStateAfterResetMeetsTheLaws :=
  ⟨rfl, ⟨Nat.zero_le _, fun _ h => nomatch h⟩, ⟨rfl, rfl, rfl, rfl⟩, waitingLaw_reset⟩

/-- Settles O11: an order by its kind, a data frame by its route, index and 1024 bytes. -/
theorem decodingReadsTheEncodedFrame : Obligations.DecodingReadsTheEncodedFrame := by
  intro i content fits sent
  cases parts : orderParts i with
  | some order =>
    obtain ⟨content', back⟩ := encodeContent_order parts
    obtain rfl := Option.some.inj (content'.symm.trans sent)
    rw [decodeContent_order, back]
  | none =>
    cases i with
    | unknownOrder kind cls tag p =>
      obtain rfl := Option.some.inj sent
      have unknown : kind ∉ catalogue ∧ paramsFit p = true := by simpa [WellFormed] using fits
      rw [decodeContent_order, orderOf_unknown kind cls tag p unknown.1]
    | dataFrame route index d =>
      obtain rfl := Option.some.inj sent
      have whole : routeFits route = true ∧ d.length = 1024 := by simpa [WellFormed] using fits
      exact decodeContent_data route index d whole.1 whole.2
    | _ => simp [orderParts, encodeContent] at parts sent

/-- Settles O12: the start byte empties the assembly, each escape adds its byte, and the check value is right. -/
theorem theReceiverReadsAFrameOnTheWire : Obligations.TheReceiverReadsAFrameOnTheWire := by
  intro r content some fits
  refine ⟨content ++ toBytes 2 (crc16 content).toNat, ?_, checkedContent_crc content some⟩
  rw [wireOf, Receiver.bytes_start, Receiver.bytes_append, Receiver.bytes_escaped _ _ (by simp; omega)]
  rfl

/-- Settles O13: a row of the table for each clause. -/
theorem theReceiverFollowsItsTable : Obligations.TheReceiverFollowsItsTable := by
  rintro ⟨st, a⟩ b
  refine ⟨?hunt, ?pass, ?ends, ?again, ?mark, ?add, ?overlong, ?unescape, ?overlongEscaped, ?startEscaped, ?badEscape⟩
  case hunt => rintro rfl rfl; rfl
  case pass => rintro rfl other; exact if_neg other
  case ends => rintro rfl rfl; rfl
  case again => rintro rfl rfl; rfl
  case mark => rintro rfl rfl; rfl
  case add =>
    rintro rfl notEnd notStart notEscape room
    simp [Receiver.byte, startByte, endByte, escapeMark, notEnd, notStart, notEscape, Receiver.append_room _ _ _ room]
  case overlong =>
    rintro rfl notEnd notStart notEscape full
    simp [Receiver.byte, startByte, endByte, escapeMark, notEnd, notStart, notEscape, Receiver.append_full _ _ _ full]
  case unescape =>
    rintro rfl (rfl | rfl | rfl) room <;>
      simp [Receiver.byte, startByte, endByte, escapeMark, Receiver.append_room _ _ _ room]
  case overlongEscaped =>
    rintro rfl (rfl | rfl | rfl) full <;> simp [Receiver.byte, Receiver.append_full _ _ _ full]
  case startEscaped => rintro rfl rfl; rfl
  case badEscape =>
    rintro rfl notStart notEnd notEscape other
    simp [Receiver.byte, startByte, notStart, notEnd, notEscape, other, Receiver.hunting]

/-- Settles O14. -/
theorem discardedFramesChangeNothing : Obligations.DiscardedFramesChangeNothing :=
  fun wire s free =>
    ⟨fun bad => (s.unlessHeld_free _ free).trans (congrArg _ (s.receive_badFrame wire bad)),
      fun aborts => (s.unlessHeld_free _ free).trans (congrArg _ (s.receive_abort wire aborts))⟩

/-- Settles O15: every order is handed over by the two tests of `State.handOver`. -/
theorem linkTestsRefuseOrders : Obligations.LinkTestsRefuseOrders := by
  intro i kind cls tag p s free
  refine ⟨fun unknown => ?_, fun parts => ?_⟩
  · change s.takeFrame _ = _
    rw [State.takeFrame_free s _ free, orderOf_unknown kind cls tag p unknown]
    rfl
  · obtain ⟨owner, handed⟩ := exec_handsOver i kind cls tag p s free parts
    rw [handed]
    refine ⟨fun wrong => ?_, fun right service ordinary => ?_⟩
    · rw [decide_eq_false wrong, State.handOver_badLength, State.refuse_eq]
    · rw [decide_eq_true right, service, State.handOver_ordinary _ _ _ _ _ ordinary, State.refuse_eq]

/-- Settles O16. -/
theorem framesLeaveInProductionOrder : Obligations.FramesLeaveInProductionOrder := by
  intro s f rest free
  have sends : exec .frameSent s = .next s.sendFrame := s.unlessHeld_free _ free
  refine ⟨fun front => ?_, fun none => ?_⟩
  · rw [sends, State.sendFrame, front]
  · rw [sends, State.sendFrame, none]

end
end

section
/-! The frame of every command: the groups of state that each operation beyond the shared ones may change, and the
commands assembled from them (O10). -/

set_option Elab.async false

namespace Sys2Proof.Machine

open Sys2Proof.Safety

/-! ### Ends that are no success: the fault record is not touched -/

/-- A lane item that ends other than OK completes no descriptor, so no link is followed (R143, R147, R150). -/
theorem State.laneResult_failed_same (loss : Bool) (r : LaneItemResult) (s : State) (failed : r.outcome ≠ .ok) :
    SameOutside { queue := true, slots := true, lanes := true, outbound := true } s (s.laneResult loss r) := by
  unfold State.laneResult
  dsimp only
  refine SameOutside.trans
    ((s.setLane_same r.lane { s.lane r.lane with
      completed := (s.lane r.lane).completed + r.blocksDone }).mono (by decide)) ?_
  generalize s.setLane r.lane { s.lane r.lane with completed := (s.lane r.lane).completed + r.blocksDone } = t
  split
  · rw [if_neg failed]
    exact t.haltLane_same _ _ _
  · exact (t.endDrain_same _).mono (by decide)
  · split
    · exact sameOutside_refl _ _
    · exact (t.endDrain_same _).mono (by decide)
  · exact sameOutside_refl _ _

theorem State.finishItem_tag_same (loss : Bool) (it : WorkItem) (t : Byte) (o : ItemOutcome) (c : WriteCause)
    (s : State) (route : it.route = .tag t) :
    SameOutside { queue := true, slots := true, outbound := true } s (s.finishItem loss it o c) := by
  unfold State.finishItem
  rw [route]
  exact ((s.produce_same _).mono (by decide)).trans ((State.removeItem_same _ _).mono (by decide))

theorem State.finishItem_failed_same (loss : Bool) (it : WorkItem) (o : ItemOutcome) (c : WriteCause) (s : State)
    (failed : o ≠ .ok) :
    SameOutside { queue := true, slots := true, lanes := true, outbound := true } s (s.finishItem loss it o c) := by
  cases route : it.route with
  | tag t => exact (s.finishItem_tag_same loss it t o c route).mono (by decide)
  | lane n =>
    unfold State.finishItem
    rw [route]
    exact ((s.removeItem_same _).mono (by decide)).trans (State.laneResult_failed_same _ _ _ failed)

theorem State.endItem_failed_same (o : ItemOutcome) (c : WriteCause) (s : State) (failed : o ≠ .ok) :
    SameOutside walking s (s.endItem o c) := by
  unfold State.endItem
  dsimp only
  refine SameOutside.trans (s.clearHead_same.mono (by decide)) ?_
  generalize s.clearHead = t
  split
  · exact sameOutside_refl _ _
  · split
    · simp [SameOutside, walking]
    · exact ((t.finishItem_failed_same _ _ _ _ failed).mono (by decide)).trans (State.settle_same _)

theorem State.endFromOutside_failed_same (it : WorkItem) (o : ItemOutcome) (s : State) (failed : o ≠ .ok) :
    SameOutside walking s (s.endFromOutside it o) := by
  have cut : SameOutside walking s (if it.state = .inService then s.cutItem else s) := by
    split
    · exact s.cutItem_same.mono (by decide)
    · exact sameOutside_refl _ _
  exact (cut.trans ((State.finishItem_failed_same _ _ _ _ _ failed).mono (by decide))).trans (State.settle_same _)

/-- A control read that fails takes no list (R73, R154). -/
theorem State.controlReadFails_ending (r : ControlRead) (s : State) : SameOutside ending s (s.controlReadFails r) := by
  unfold State.controlReadFails
  refine SameOutside.trans (s.clearHead_same.mono (by decide)) ?_
  cases r with
  | format => exact (State.formatRead_same _ _).mono (by decide)
  | listHeader | listEntries =>
    simp only [State.listRead, Option.bind_none, Option.bind_fun_none]
    exact (State.mountFails_same _ _).mono (by decide)
  | extents => exact (State.extentsRead_same _ _).mono (by decide)

/-- A rule that ends the head's task without success (R113, R115, R116). -/
theorem State.endTask_failed_same (o : ItemOutcome) (c : WriteCause) (s : State) (failed : o ≠ .ok) :
    SameOutside ending s (s.endTask o c) := by
  have noticed : SameOutside ending s (s.notifyWriteFailed o c) := (s.notifyWriteFailed_same o c).mono (by decide)
  have cleared (t : State) : SameOutside ending t t.clearHead := t.clearHead_same.mono (by decide)
  unfold State.endTask
  split
  · exact sameOutside_refl _ _
  · split
    · refine noticed.trans ?_
      dsimp only
      split
      · exact sameOutside_refl _ _
      · split
        · exact (State.endItem_failed_same _ _ _ failed).mono (by decide)
        · exact ((State.mapHead_same _ _).mono (by decide)).trans ((State.startRewrite_same _).mono (by decide))
    · exact (s.endItem_failed_same _ _ failed).mono (by decide)
  · exact ((s.mapDrive_same _).mono (by decide)).trans (cleared _)
  · exact noticed.trans (cleared _)
  · exact noticed.trans (cleared _)
  · exact s.controlReadFails_ending _

/-! ### Control work that succeeds -/

theorem State.controlReadDone_same (r : ControlRead) (s : State) : SameOutside resulting s (s.controlReadDone r) := by
  unfold State.controlReadDone
  dsimp only
  refine SameOutside.trans (s.clearHead_same.mono (by decide)) ?_
  have list (sectors : List (Nat × Block)) (t : State) : SameOutside resulting t (t.listRead (some sectors)) :=
    (t.listRead_same _).mono (by decide)
  cases r with
  | format => exact (State.formatRead_same _ _).mono (by decide)
  | listHeader =>
    dsimp only
    split
    · exact list _ _
    · exact list _ _
    · exact ((State.mapHead_same _ _).mono (by decide)).trans ((State.startControlRead_same _ _).mono (by decide))
  | listEntries => exact list _ _
  | extents => exact (State.extentsRead_same _ _).mono (by decide)

theorem State.controlWriteDone_same (s : State) : SameOutside resulting s s.controlWriteDone := by
  have one (t : State) :
      SameOutside resulting t ((t.mapFront fun it => { it with blocksDone := 1 }).endItem .ok .none) :=
    ((t.mapFront_same _).mono (by decide)).trans ((State.endItem_same _ _ _).mono (by decide))
  unfold State.controlWriteDone
  split
  · exact one s
  · dsimp only
    refine SameOutside.trans ((s.mapList_same fun l => { l with dirty := false }).mono (by decide)) ?_
    split
    · exact sameOutside_refl _ _
    · split
      · exact one _
      · exact ((State.mapHead_same _ _).mono (by decide)).trans ((State.startRewrite_same _).mono (by decide))
  · exact ((s.mapList_same _).mono (by decide)).trans ((State.clearHead_same _).mono (by decide))
  · exact sameOutside_refl _ _

/-! ### Passes and results -/

/-- What the ending of a pass over an item's blocks may change, short of its control work. -/
theorem State.afterRewrite_same (s : State) : SameOutside resulting s s.afterRewrite := by
  have done (ks : List Nat) (f : Head → Head) : SameOutside resulting s ((s.completeBlocks ks).mapHead f) :=
    ((s.completeBlocks_same ks).mono (by decide)).trans ((State.mapHead_same _ _).mono (by decide))
  unfold State.afterRewrite
  split
  · exact (done _ _).trans ((State.continueItem_same _).mono (by decide))
  · exact (done _ _).trans ((State.takeUpFailing_same _).mono (by decide))

theorem State.rewriteVerified_same (ok : Bool) (s : State) : SameOutside resulting s (s.rewriteVerified ok) := by
  unfold State.rewriteVerified
  split
  · split
    · exact sameOutside_refl _ _
    · exact (((s.completeBlock_same _).mono (by decide)).trans ((State.mapHead_same _ _).mono (by decide))).trans
        (State.afterRewrite_same _)
  · exact s.takeUpFailing_same.mono (by decide)

theorem State.blocksVerified_same (ts : List Target) (s : State) : SameOutside resulting s (s.blocksVerified ts) := by
  unfold State.blocksVerified
  dsimp only
  refine SameOutside.trans ((s.completeBlocks_same ((ts.takeWhile fun t => decide (t.stage = .good)).map
    Target.block)).mono (by decide)) ?_
  split
  · exact (State.continueItem_same _).mono (by decide)
  · exact ((State.mapHead_same _ _).mono (by decide)).trans ((State.takeUpFailing_same _).mono (by decide))

theorem State.settle_resulting {s t : State} (h : SameOutside resulting s t) : SameOutside resulting s t.settle :=
  h.trans (t.settle_same.mono (by decide))

theorem State.verifyEnds_same (r : Run) (s : State) : SameOutside resulting s (s.verifyEnds r) := by
  have control : SameOutside resulting s (if r.targets.all fun t => decide (t.stage = .good) then s.controlWriteDone
      else s.endTask .writeFailed .verify) := by
    split
    · exact s.controlWriteDone_same
    · exact s.endTask_same _ _
  unfold State.verifyEnds
  split
  · exact State.settle_resulting (s.blocksVerified_same _)
  · exact State.settle_resulting (s.rewriteVerified_same _)
  · exact control
  · exact control
  · exact sameOutside_refl _ _

theorem State.slotsWritten_same (ts : List Target) (s : State) :
    SameOutside { slots := true } s (s.slotsWritten ts) := by
  unfold State.slotsWritten
  split
  · exact sameOutside_refl _ _
  · simp [SameOutside]

theorem State.writeEnds_same (r : Run) (s : State) : SameOutside resulting s (s.writeEnds r) := by
  have next (t : State) : SameOutside resulting t t.nextPass := t.nextPass_same.mono (by decide)
  unfold State.writeEnds
  split
  · dsimp only
    refine SameOutside.trans ((s.slotsWritten_same r.targets).mono (by decide)) ?_
    split
    · exact State.settle_resulting (((State.completeBlocks_same _ _).mono (by decide)).trans
        ((State.continueItem_same _).mono (by decide)))
    · exact next _
  · exact next s

theorem State.readRoundEnds_same (r : Run) (s : State) : SameOutside resulting s (s.readRoundEnds r) := by
  unfold State.readRoundEnds
  split
  · exact (s.mapHead_same _).mono (by decide)
  · split
    · exact s.endTask_same _ _
    · split
      · exact s.controlReadDone_same _
      · exact sameOutside_refl _ _
      · exact s.continueItem_same.mono (by decide)
      · exact sameOutside_refl _ _

theorem State.blankCheckEnds_same (s : State) : SameOutside resulting s s.blankCheckEnds := by
  unfold State.blankCheckEnds
  split
  · exact s.continueItem_same.mono (by decide)
  · exact s.nextPass_same.mono (by decide)

theorem State.endPassIfOver_same (s : State) : SameOutside resulting s s.endPassIfOver := by
  unfold State.endPassIfOver
  split
  · exact sameOutside_refl _ _
  · split
    · split
      · exact s.nextPass_same.mono (by decide)
      · exact s.writeEnds_same _
      · exact s.verifyEnds_same _
      · exact s.blankCheckEnds_same
      · exact s.readRoundEnds_same _
    · exact sameOutside_refl _ _

theorem State.notBlank_same (r : Run) (s : State) : SameOutside resulting s (s.notBlank r) := by
  have ends : SameOutside resulting s (match s.queue with
      | [] => s
      | it :: _ =>
        if it.kind = .blank then s.endItem .eraseFailed .none else s.endItem .alreadyWritten .none) := by
    split
    · exact sameOutside_refl _ _
    · split <;> exact (s.endItem_same _ _).mono (by decide)
  unfold State.notBlank
  cases r.work with
  | rewrite => exact State.settle_resulting (s.takeUpFailing_same.mono (by decide))
  | blocks => exact ends
  | store => exact ends
  | listImage => exact ends
  | control => exact ends

theorem State.actOnTarget_same (r : Run) (t : Target) (blankMark : Bool) (s : State) :
    SameOutside resulting s (s.actOnTarget r t blankMark) := by
  have marked (stage : Stage) : SameOutside resulting s (s.mapTargetAt t.sector (Target.acted stage)) :=
    (s.mapTargetAt_same _ _).mono (by decide)
  have acted (stage : Stage) (a : PortAction) :
      SameOutside resulting s ((s.mapTargetAt t.sector (Target.acted stage)).act a) :=
    (marked stage).trans ((State.act_same _ _).mono (by decide))
  unfold State.actOnTarget
  split
  · exact (acted _ _).trans (State.endPassIfOver_same _)
  · exact (acted _ _).trans (State.endPassIfOver_same _)
  · exact acted _ _
  · exact acted _ _
  · split
    · dsimp only
      refine SameOutside.trans ?_ (State.endPassIfOver_same _)
      split
      · exact (marked _).trans ((State.completeBlock_same _ _).mono (by decide))
      · exact marked _
    · exact s.notBlank_same r

theorem State.passArrival_same (r : Run) (sector : Nat) (blankMark : Bool) (s : State) :
    SameOutside resulting s (s.passArrival r sector blankMark) := by
  unfold State.passArrival
  split
  · exact sameOutside_refl _ _
  · split
    · split
      · exact s.actOnTarget_same _ _ _
      · exact sameOutside_refl _ _
    · exact ((s.mapTargetAt_same _ _).mono (by decide)).trans (State.endPassIfOver_same _)
    · exact sameOutside_refl _ _
    · exact sameOutside_refl _ _

theorem State.wrongTrack_same (s : State) : SameOutside resulting s s.wrongTrack := by
  unfold State.wrongTrack
  split
  · exact ((s.mapHead_same _).mono (by decide)).trans ((State.commandSeek_same _ _).mono (by decide))
  · exact ((s.mapHead_same _).mono (by decide)).trans (State.endTask_same _ _ _)

theorem State.sectorId_same (track sector : Nat) (blankMark : Bool) (s : State) :
    SameOutside resulting s (s.sectorId track sector blankMark) := by
  unfold State.sectorId
  split
  · exact sameOutside_refl _ _
  · split
    case h_1 =>
      split
      · exact s.wrongTrack_same
      · split
        · exact s.hold_same.mono (by decide)
        · split
          · exact ((s.mapHead_same _).mono (by decide)).trans (State.passArrival_same _ _ _ _)
          · exact sameOutside_refl _ _
    case h_2 =>
      split
      · exact sameOutside_refl _ _
      · split
        · exact s.wrongTrack_same
        · exact s.passArrival_same _ _ _
    all_goals exact sameOutside_refl _ _

theorem State.deliver_same (t : Target) (d : Block) (corrected : Nat) (s : State) :
    SameOutside resulting s (s.deliver t d corrected) := by
  unfold State.deliver
  split
  · exact sameOutside_refl _ _
  next it rest hq =>
    refine SameOutside.trans ?_ ((State.setItemFlags_same it false _).mono (by decide))
    simp [SameOutside, resulting, ending]

theorem State.readData_same (track sector : Nat) (res : ReadResult) (s : State) :
    SameOutside resulting s (s.readData track sector res) := by
  have marked (f : Target → Target) : SameOutside resulting s (s.mapTargetAt sector f) :=
    (s.mapTargetAt_same _ _).mono (by decide)
  unfold State.readData
  split
  · exact sameOutside_refl _ _
  · split
    · exact (marked _).trans (State.endPassIfOver_same _)
    · dsimp only
      refine SameOutside.trans ?_ (State.endPassIfOver_same _)
      split
      · exact (marked _).trans ((State.mapHead_same _ _).mono (by decide))
      · exact (marked _).trans (State.deliver_same _ _ _ _)

theorem State.verifyResult_same (track sector : Nat) (isMatch : Bool) (s : State) :
    SameOutside resulting s (s.verifyResult track sector isMatch) := by
  unfold State.verifyResult
  split
  · exact sameOutside_refl _ _
  · exact ((s.mapTargetAt_same _ _).mono (by decide)).trans (State.endPassIfOver_same _)

/-! ### Timers and the index -/

theorem State.seekExpires_same (s : State) : SameOutside ending s s.seekExpires := by
  unfold State.seekExpires
  split
  · split
    · exact (s.commandSeek_same _).mono (by decide)
    · exact ((s.mapHead_same _).mono (by decide)).trans (State.endTask_failed_same _ _ _ nofun)
  · exact sameOutside_refl _ _

theorem State.biasExpires_same (s : State) : SameOutside ending s s.biasExpires := by
  unfold State.biasExpires
  split
  · exact ((s.mapHead_same _).mono (by decide)).trans (State.endTask_failed_same _ _ _ nofun)
  · exact sameOutside_refl _ _

theorem State.holdExpires_same (s : State) : SameOutside ending s s.holdExpires := by
  unfold State.holdExpires
  split
  · exact s.endTask_failed_same _ _ nofun
  · exact sameOutside_refl _ _

theorem State.missingEnds_same (s : State) : SameOutside ending s s.missingEnds := by
  unfold State.missingEnds
  split
  · exact s.endTask_failed_same _ _ nofun
  · exact sameOutside_refl _ _

theorem State.indexLoss_same (s : State) : SameOutside ending s s.indexLoss := by
  unfold State.indexLoss
  split
  · dsimp only
    refine SameOutside.trans (((s.mapDrive_same fun d =>
      { d with counter := Config.counterTop, period := none, tracking := false, good := 0 }).mono (by decide)).trans
      ((State.speedBecomes_same .offSpeed none _).mono (by decide))) ?_
    split
    · exact State.endTask_failed_same _ _ _ nofun
    · exact sameOutside_refl _ _
  · exact sameOutside_refl _ _

theorem State.indexArrives_same (elapsed : Nat) (s : State) : SameOutside ending s (s.indexArrives elapsed) := by
  have indexed (v : Nat) (t : State) : SameOutside ending t (t.indexAt v) := (t.indexAt_same v).mono (by decide)
  unfold State.indexArrives
  split
  · split
    · exact indexed _ s
    · dsimp only
      refine s.indexLoss_same.trans ?_
      split
      · exact indexed _ _
      · exact sameOutside_refl _ _
  · exact sameOutside_refl _ _

/-! ### Unload, loss, RESTART -/

theorem State.unloadLanes_same (s : State) :
    SameOutside { queue := true, slots := true, lanes := true, outbound := true } s s.unloadLanes := by
  refine sameOutside_foldl _ (fun t n => ?_) _ _
  split
  · exact t.haltLane_same _ _ _
  · exact sameOutside_refl _ _

theorem State.startUnload_same (s : State) : SameOutside { walking with drive := true } s s.startUnload := by
  unfold State.startUnload
  dsimp only
  refine SameOutside.trans ((s.mapDrive_same fun d =>
    { d with state := .unloading, spinUp := none, mountFault := none, tried := false }).mono (by decide)) ?_
  split
  · exact (State.cutHead_same _).mono (by decide)
  · exact ((State.unloadLanes_same _).mono (by decide)).trans ((State.settle_same _).mono (by decide))
  all_goals exact sameOutside_refl _ _

theorem State.loseItem_same (s : State) (it : WorkItem) : SameOutside walking s (s.loseItem it) :=
  have failed : ItemOutcome.mediaGone ≠ .ok := nofun
  have done := State.finishItem_failed_same true it .mediaGone .none (s.produceAll (s.unsentFrames it)) failed
  ((s.produceAll_same _).mono (by decide)).trans (done.mono (by decide))

theorem State.haltActive_same (cause : HaltCause) (ns : List Nat) (s : State) :
    SameOutside walking s (s.haltActive cause ns) := by
  refine sameOutside_foldl _ (fun t n => ?_) _ _
  split
  · exact (t.haltLane_same _ _ _).mono (by decide)
  · exact sameOutside_refl _ _

/-- What a loss may change. -/
def losing : Footprint := { walking with drive := true, list := true }

theorem State.loseCartridge_same (s : State) : SameOutside losing s s.loseCartridge := by
  unfold State.loseCartridge
  split
  · exact sameOutside_refl _ _
  · let cut : State := s.cutHead.mapHead fun h => { h with track := none, bias := .unset }
    have cutSame : SameOutside losing s cut :=
      (s.cutHead_same.mono (by decide)).trans ((State.mapHead_same _ _).mono (by decide))
    have items : SameOutside losing cut (cut.queue.foldl State.loseItem cut) :=
      (sameOutside_foldl _ State.loseItem_same _ _).mono (by decide)
    have halted (t : State) : SameOutside losing t (t.haltActive (.outcome .mediaGone .none) laneNumbers) :=
      (t.haltActive_same _ _).mono (by decide)
    have closed (t : State) : SameOutside losing t
        ((((t.discardList true).spindleOff).notify (.mediaGone true)).answerUnloads).becomeEmpty :=
      (((((t.discardList_same true).mono (by decide)).trans ((State.spindleOff_same _).mono (by decide))).trans
        ((State.notify_same _ _).mono (by decide))).trans ((State.answerUnloads_same _).mono (by decide))).trans
        ((State.mapDrive_same _ _).mono (by decide))
    exact ((cutSame.trans items).trans (halted _)).trans (closed _)

theorem State.restartAll_same (s : State) :
    SameOutside { walking with drive := true, fault := true, list := true } s s.restartAll := by
  have reading (t : State) : SameOutside { walking with drive := true, fault := true, list := true } t
      (match s.head.task with
        | .controlRead r => t.startControlRead r.again
        | .none => t
        | .item => t
        | .writeBack _ => t) := by
    split
    · exact (State.startControlRead_same _ _).mono (by decide)
    all_goals exact sameOutside_refl _ _
  unfold State.restartAll
  dsimp only
  refine SameOutside.trans ?_ (reading _)
  refine SameOutside.trans ?_ ((State.mapDrive_same _ _).mono (by decide))
  refine SameOutside.trans ?_ ((State.mapList_same _ _).mono (by decide))
  refine SameOutside.trans (t := s.cutHead.mapHead fun h => { h with bias := .unset }) ?_ ?_
  · exact (s.cutHead_same.mono (by decide)).trans ((State.mapHead_same _ _).mono (by decide))
  · simp [SameOutside, walking]

/-! ### Data frames -/

theorem State.acceptFrame_same (it : WorkItem) (k : Nat) (d : Block) (s : State) :
    SameOutside walking s (s.acceptFrame it k d) := by
  have filled (t : Option Nat) :
      SameOutside walking s ((s.setSlots (fillSlot it.id k .full d s.slots)).setDataTimer t) := by
    simp [SameOutside, walking]
  unfold State.acceptFrame
  dsimp only
  split
  · exact (filled none).trans ((State.formRun_same _).mono (by decide))
  · simp [SameOutside, walking]

theorem State.takeData_same (route : Route) (index : Word16) (d : Block) (s : State) :
    SameOutside walking s (s.takeData route index d) := by
  unfold State.takeData
  split
  · exact (s.notify_same _).mono (by decide)
  · split
    · exact s.endFromOutside_failed_same _ _ nofun
    · split
      · exact s.acceptFrame_same _ _ _
      · exact s.endFromOutside_failed_same _ _ nofun

theorem State.dataOrder_same (route : Route) (index : Word16) (d : Block) (s : State) :
    SameOutside walking s (s.dataOrder route index d) := by
  unfold State.dataOrder
  split
  · exact s.takeData_same _ _ _
  · exact sameOutside_refl _ _

theorem State.dataExpires_same (s : State) : SameOutside walking s s.dataExpires := by
  unfold State.dataExpires
  split
  · exact s.endFromOutside_failed_same _ _ nofun
  · exact sameOutside_refl _ _

theorem State.beginSend_same (s : State) : SameOutside { slots := true } s s.beginSend := by
  unfold State.beginSend
  split
  · exact sameOutside_refl _ _
  · split
    · simp [SameOutside]
    · exact sameOutside_refl _ _

theorem State.dataProduced_same (s : State) : SameOutside walking s s.dataProduced := by
  unfold State.dataProduced
  split
  · exact sameOutside_refl _ _
  next it rest hq =>
    split
    · exact sameOutside_refl _ _
    next t route =>
      split
      · dsimp only
        have produced : SameOutside walking s (((s.produce (.data t it.sent
            (slotData it.id it.sent s.slots))).setQueue ({ it with sent := it.sent + 1 } :: rest)).setSlots
            (freeSlot it.id it.sent s.slots)) := by simp [SameOutside, walking, State.produce]
        split
        · exact produced.trans (State.settle_same _)
        · split
          · exact (produced.trans ((State.finishItem_tag_same _ _ t _ _ _ route).mono (by decide))).trans
              (State.settle_same _)
          · exact produced.trans (State.settle_same _)
      · exact sameOutside_refl _ _

/-! ### Orders and lane posts -/

theorem State.handOver_same {f : Footprint} (kind cls tag : Byte) (lengthOk service : Bool) (owner : State → State)
    (s : State) (h : SameOutside f s (owner s)) (answers : Footprint.le { outbound := true } f := by decide) :
    SameOutside f s (s.handOver kind cls tag lengthOk service owner) := by
  unfold State.handOver
  split
  · exact (s.refuse_same _ _ _).mono answers
  · exact h

theorem State.enqueue_same (okind tag : Byte) (kind : ItemKind) (extent first : Option Nat) (count : Nat)
    (s : State) : SameOutside walking s (s.enqueue okind tag kind extent first count) := by
  unfold State.enqueue
  split
  · exact ((s.addItem_same _).mono (by decide)).trans (State.settle_same _)
  · exact (s.refuse_same _ _ _).mono (by decide)

theorem State.refuseViolation_same (okind tag : Byte) (a : Access) (c : CauseSet) (s : State) :
    SameOutside { walking with fault := true } s (s.refuseViolation okind tag a c) := by
  have answered : SameOutside { walking with fault := true } s
      ((s.recordViolation none a c).answer okind tag .violation (.causes c)) :=
    ((s.recordViolation_same none a c).mono (by decide)).trans ((State.answer_same _ _ _ _ _).mono (by decide))
  unfold State.refuseViolation
  dsimp only
  split
  · exact answered.trans ((State.settle_same _).mono (by decide))
  · exact answered

theorem State.acceptAccess_same (okind cls tag : Byte) (kind : ItemKind) (akind : AccessKind)
    (extent first count : Nat) (s : State) :
    SameOutside { walking with fault := true } s (s.acceptAccess okind cls tag kind akind extent first count) := by
  unfold State.acceptAccess
  split
  · exact (s.refuse_same _ _ _).mono (by decide)
  · dsimp only
    split
    · exact s.refuseViolation_same _ _ _ _
    · refine SameOutside.trans ((s.edgeCheck_same (orderAccess akind cls tag extent first count)).mono (by decide)) ?_
      split
      · exact (State.refuse_same _ _ _ _).mono (by decide)
      · exact (State.enqueue_same _ _ _ _ _ _ _).mono (by decide)

theorem State.acceptControl_same (okind tag : Byte) (kind : ItemKind) (s : State) :
    SameOutside walking s (s.acceptControl okind tag kind) := by
  unfold State.acceptControl
  split
  · exact (s.refuse_same _ _ _).mono (by decide)
  · exact s.enqueue_same _ _ _ _ _ _

theorem State.unloadOrder_same (cls tag : Byte) (params : List Byte) (s : State) :
    SameOutside { walking with drive := true } s (s.unloadOrder cls tag params) := by
  refine s.handOver_same _ _ _ _ _ _ ?_
  split
  · exact (s.refuse_same _ _ _).mono (by decide)
  · exact (s.mapDrive_same _).mono (by decide)
  all_goals exact ((s.mapDrive_same _).mono (by decide)).trans (State.startUnload_same _)

theorem State.startLaneChecked_same (cls tag : Byte) (n g : Nat) (s : State) :
    SameOutside { walking with fault := true } s (s.startLaneChecked cls tag n g) := by
  have refused (c : Code) : SameOutside { walking with fault := true } s (s.refuse Kind.startLane tag c) :=
    (s.refuse_same _ _ _).mono (by decide)
  unfold State.startLaneChecked
  split
  · exact refused _
  split
  · exact refused _
  split
  · exact refused _
  split
  · exact refused _
  split
  · exact refused _
  dsimp only
  split
  · exact s.refuseViolation_same _ _ _ _
  split
  · exact refused _
  · exact ((s.setLane_same _ _).mono (by decide)).trans ((State.answer_same _ _ _ _ _).mono (by decide))

theorem State.stopLaneOrder_same (cls tag : Byte) (params : List Byte) (s : State) :
    SameOutside walking s (s.stopLaneOrder cls tag params) := by
  have joins (n : Nat) (t : State) : SameOutside walking t (t.joinStop n tag) :=
    (t.setLane_same _ _).mono (by decide)
  have stops (n : Nat) (t : State) : SameOutside walking t (t.stopAtOnce n tag) :=
    ((t.setLane_same _ _).mono (by decide)).trans ((State.produce_same _ _).mono (by decide))
  have active (n : Nat) (t : State) : SameOutside walking t (t.stopActive n tag) := by
    let left := (t.removeWaiting n).setLane n { (t.removeWaiting n).lane n with pendingPost := none }
    have dropped : SameOutside walking t left :=
      ((t.removeWaiting_same n).mono (by decide)).trans ((State.setLane_same _ _ _).mono (by decide))
    refine SameOutside.trans (dropped.trans ?_) (State.settle_same _)
    split
    · exact stops _ _
    · exact ((State.setLane_same _ _ _).mono (by decide)).trans (joins _ _)
  refine s.handOver_same _ _ _ _ _ _ ?_
  dsimp only
  split
  · exact (s.refuse_same _ _ _).mono (by decide)
  · split
    · exact active _ s
    · exact joins _ s
    · split
      · exact stops _ s
      · exact joins _ s
    · exact stops _ s

theorem State.postPiece_same (n : Nat) (p : Piece) (s : State) : SameOutside walking s (s.postPiece n p) := by
  unfold State.postPiece
  dsimp only
  refine SameOutside.trans ((s.setLane_same n ((s.lane n).advance (s.laneDescriptor n) p.count)).mono (by decide)) ?_
  split
  · exact ((State.addPiece_same _ _ _).mono (by decide)).trans (State.settle_same _)
  · exact (State.setLane_same _ _ _).mono (by decide)

theorem State.postLane_same (n : Nat) (s : State) : SameOutside { walking with fault := true } s (s.postLane n) := by
  unfold State.postLane
  split
  · dsimp only
    split
    · refine SameOutside.trans ?_ ((State.settle_same _).mono (by decide))
      split
      · exact (State.recordViolation_same _ _ _ _).mono (by decide)
      · exact ((State.recordViolation_same _ _ _ _).mono (by decide)).trans
          ((State.haltLane_same _ _ _ _).mono (by decide))
    · split
      · exact ((s.haltLane_same _ _ _).mono (by decide)).trans ((State.settle_same _).mono (by decide))
      · exact ((s.edgeCheck_same _).mono (by decide)).trans ((State.postPiece_same _ _ _).mono (by decide))
  · exact sameOutside_refl _ _

theorem State.loadExtents_same (tag : Byte) (f : Nat) (es : List Extent) (s : State) :
    SameOutside { extents := true, outbound := true } s (s.loadExtents tag f es) := by
  unfold State.loadExtents
  split
  · simp [SameOutside, State.answer, State.produce]
  · exact (s.refuse_same _ _ _).mono (by decide)

theorem State.loadDescriptors_same (tag : Byte) (g : Nat) (ds : List Descriptor) (s : State) :
    SameOutside { descriptors := true, outbound := true } s (s.loadDescriptors tag g ds) := by
  unfold State.loadDescriptors
  split
  · simp [SameOutside, State.answer, State.produce]
  · exact (s.refuse_same _ _ _).mono (by decide)

/-- A table order that only answers (R32, R72, R136, R53, R176). -/
theorem State.showing_same (s : State) (answer : Prop) [Decidable answer] (kind tag : Byte) (body : Body)
    (code : Code) :
    SameOutside { outbound := true } s
      (if answer then s.answer kind tag .ok body else s.refuse kind tag code) := by
  split
  · exact s.answer_same _ _ _ _
  · exact s.refuse_same _ _ _

/-! ### The head's own steps -/

theorem State.takeUp_same (s : State) : SameOutside { walking with fault := true } s s.takeUp := by
  have flush (t : State) : SameOutside { walking with fault := true } t (if t.list.dirty then t.startWriteBack
      else (t.mapFront fun it => { it with blocksDone := 1 }).endItem .ok .none) := by
    split
    · exact t.startWriteBack_same.mono (by decide)
    · exact ((t.mapFront_same _).mono (by decide)).trans (State.endItem_same _ _ _)
  have forms (t : State) : SameOutside { walking with fault := true } t t.formRun := t.formRun_same.mono (by decide)
  unfold State.takeUp
  split
  · exact sameOutside_refl _ _
  next it rest _ =>
    split
    · have taken : SameOutside { walking with fault := true } s
          ((s.setQueue ({ it with state := .inService } :: rest)).mapHead fun h => { h with task := .item }) := by
        simp [SameOutside, walking, State.mapHead]
      refine taken.trans ?_
      unfold State.beginItem
      cases it.kind with
      | fetch => exact forms _
      | place => exact forms _
      | blank => exact forms _
      | store => exact (State.startRun_same _ _ _).mono (by decide)
      | flush => exact flush _
    · exact sameOutside_refl _ _

theorem State.pendingPost_same (s : State) :
    SameOutside walking s (if s.placeFree ∧ s.anyPending = true then s.placeOnePending.walk.resumeFetch else s) := by
  split
  · exact ((s.placeOnePending_same.mono (by decide)).trans ((State.walk_same _).mono (by decide))).trans
      ((State.resumeFetch_same _).mono (by decide))
  · exact sameOutside_refl _ _

/-! ### Commands -/

theorem State.unlessHeld_same {f : Footprint} {s t : State} (effect : State → State) (h : SameOutside f s (effect s))
    (run : s.unlessHeld effect = .next t) : SameOutside f s t := by
  obtain rfl := Host.Outcome.next.inj run
  split
  · exact sameOutside_refl _ _
  · exact h

/-- A frame is taken off the receiver, and then its owner acts. -/
theorem State.takeFrame_same {f : Footprint} {s t : State} (effect : State → State)
    (h : ∀ u, SameOutside f u (effect u)) (run : s.takeFrame effect = .next t)
    (receives : Footprint.le { receiver := true } f := by decide) : SameOutside f s t :=
  State.unlessHeld_same (fun s => effect s.frameArrived)
    (SameOutside.trans ((show SameOutside { receiver := true } s (s.setReceiver Receiver.hunting) by
      simp [SameOutside]).mono receives) (h _)) run

theorem State.takeFrame_order_same {f : Footprint} {s t : State} (kind cls tag : Byte) (lengthOk service : Bool)
    (owner : State → State) (h : ∀ u, SameOutside f u (owner u))
    (run : s.takeFrame (State.handOver kind cls tag lengthOk service owner) = .next t)
    (answers : Footprint.le answering f := by decide) : SameOutside f s t := by
  obtain ⟨-, -, -, -, -, -, -, -, -, -, receiver, outbound, -⟩ := answers
  have outbound : Footprint.le { outbound := true } f := by simp [Footprint.le, outbound rfl]
  exact State.takeFrame_same _ (fun u => u.handOver_same _ _ _ _ _ _ (h u) outbound) run
    (by simp [Footprint.le, receiver rfl])

end Sys2Proof.Machine

section

open Sys2Proof Sys2Proof.Machine Sys2Proof.Safety

/-- Settles O10: each command's operations stay within the groups that `touches` gives it. -/
theorem everyCommandKeepsItsFrame : Obligations.EveryCommandKeepsItsFrame := by
  intro c s t fits notAsserted notReleased run
  have answered {f : Footprint} (u : State) (kind tag : Byte) (body : Body)
      (le : Footprint.le { outbound := true } f := by decide) : SameOutside f u (u.answer kind tag .ok body) :=
    (u.answer_same _ _ _ _).mono le
  cases c <;> simp only [touches]
  case fetch c g p =>
    exact State.takeFrame_order_same _ _ _ _ _ _ (fun u => (u.acceptAccess_same _ _ _ _ _ _ _ _).mono (by decide)) run
  case place c g p =>
    exact State.takeFrame_order_same _ _ _ _ _ _ (fun u => (u.acceptAccess_same _ _ _ _ _ _ _ _).mono (by decide)) run
  case blank c g p =>
    exact State.takeFrame_order_same _ _ _ _ _ _ (fun u => (u.acceptAccess_same _ _ _ _ _ _ _ _).mono (by decide)) run
  case storeExtents c g p =>
    exact State.takeFrame_order_same _ _ _ _ _ _ (fun u => (u.acceptControl_same _ _ _).mono (by decide)) run
  case flushList c g p =>
    exact State.takeFrame_order_same _ _ _ _ _ _ (fun u => (u.acceptControl_same _ _ _).mono (by decide)) run
  case unload c g p => exact State.takeFrame_same _ (fun u => (u.unloadOrder_same c g p).mono (by decide)) run
  case startLane c g p =>
    exact State.takeFrame_order_same _ _ _ _ _ _ (fun u => (u.startLaneChecked_same _ _ _ _).mono (by decide)) run
  case stopLane c g p => exact State.takeFrame_same _ (fun u => (u.stopLaneOrder_same c g p).mono (by decide)) run
  case loadExtents c g p =>
    exact State.takeFrame_order_same _ _ _ _ _ _ (fun u => (u.loadExtents_same _ _ _).mono (by decide)) run
  case showExtents c g p =>
    exact State.takeFrame_order_same _ _ _ _ _ _ (fun u => (u.showing_same _ _ _ _ _).mono (by decide)) run
  case markAll c g p =>
    refine State.takeFrame_order_same _ _ _ _ _ _ (fun u => ?_) run
    exact SameOutside.trans (t := u.setExtents _) (by simp [SameOutside]) (answered _ _ _ _)
  case showList c g p =>
    refine State.takeFrame_order_same _ _ _ _ _ _ (fun u => ?_) run
    dsimp only
    split
    · exact (u.refuse_same _ _ _).mono (by decide)
    · exact (u.showing_same _ _ _ _ _).mono (by decide)
  case loadDescriptors c g p =>
    exact State.takeFrame_order_same _ _ _ _ _ _ (fun u => (u.loadDescriptors_same _ _ _).mono (by decide)) run
  case showDescriptors c g p =>
    exact State.takeFrame_order_same _ _ _ _ _ _ (fun u => (u.showing_same _ _ _ _ _).mono (by decide)) run
  case showFault c g p => exact State.takeFrame_order_same _ _ _ _ _ _ (fun u => answered u _ _ _) run
  case clearFault c g p =>
    refine State.takeFrame_order_same _ _ _ _ _ _ (fun u => ?_) run
    exact SameOutside.trans (t := u.setFault _) (by simp [SameOutside]) (answered _ _ _ _)
  case setProfile c g p =>
    refine State.takeFrame_order_same _ _ _ _ _ _ (fun u => ?_) run
    refine SameOutside.trans ?_ (answered _ _ _ _)
    simp [SameOutside, State.mapList]
  case showState c g p => exact State.takeFrame_order_same _ _ _ _ _ _ (fun u => answered u _ _ _) run
  case restart c g p =>
    refine State.takeFrame_order_same _ _ _ _ _ _ (fun u => ?_) run
    exact (u.restartAll_same.mono (by decide)).trans (answered _ _ _ _)
  case unknownOrder kind c g p =>
    have unknown : kind ∉ catalogue ∧ paramsFit p = true := by simpa [WellFormed] using fits
    refine State.takeFrame_same (f := answering) _ (fun u => ?_) run
    rw [orderOf_unknown kind c g p unknown.1]
    exact (u.refuse_same _ _ _).mono (by decide)
  case badFrame wire =>
    refine State.unlessHeld_same _ ?_ run
    rw [s.receive_badFrame wire fits]
    simp [SameOutside, taken]
  case dataFrame route index d =>
    exact State.takeFrame_same _ (fun u => (u.dataOrder_same route index d).mono (by decide)) run
  case sendBlock => exact State.unlessHeld_same _ s.beginSend_same run
  case dataFrameProduced => exact State.unlessHeld_same _ s.dataProduced_same run
  case frameSent => exact State.unlessHeld_same _ s.sendFrame_same run
  case sectorIdArrival track sector mark => exact State.unlessHeld_same _ (s.sectorId_same _ _ _) run
  case indexArrival elapsed => exact State.unlessHeld_same _ (s.indexArrives_same _) run
  case readDataEvent track sector result => exact State.unlessHeld_same _ (s.readData_same _ _ _) run
  case verifyCompareResult track sector isMatch => exact State.unlessHeld_same _ (s.verifyResult_same _ _ _) run
  case seekComplete => exact State.unlessHeld_same _ s.seekArrives_same run
  case biasReady => exact State.unlessHeld_same _ s.biasArrives_same run
  case insertion tab => exact State.unlessHeld_same _ (s.insert_same tab) run
  case ejectButton =>
    refine State.unlessHeld_same
      (fun s => if s.drive.state = .empty ∨ s.drive.state = .unloading then s else s.startUnload) ?_ run
    split
    · exact sameOutside_refl _ _
    · exact s.startUnload_same
  case cartridgeLost => exact State.unlessHeld_same _ s.loseCartridge_same run
  case hardwareResetAsserted => exact absurd rfl notAsserted
  case hardwareResetReleased straps cartridge => exact absurd rfl (notReleased straps cartridge)
  case seekTimeout => exact State.unlessHeld_same _ s.seekExpires_same run
  case biasTimeout => exact State.unlessHeld_same _ s.biasExpires_same run
  case holdTimeout => exact State.unlessHeld_same _ s.holdExpires_same run
  case spinUpTimeout => exact State.unlessHeld_same _ (s.spinUpExpires_same.mono (by decide)) run
  case dataTimeout => exact State.unlessHeld_same _ s.dataExpires_same run
  case indexLost => exact State.unlessHeld_same _ s.indexLoss_same run
  case sectorMissing => exact State.unlessHeld_same _ s.missingEnds_same run
  case itemTakeUp => exact State.unlessHeld_same _ s.takeUp_same run
  case writeBackRequestServed => exact State.unlessHeld_same _ s.serveRequest_same run
  case lanePost n => exact State.unlessHeld_same _ (s.postLane_same n) run
  case pendingPostPlaced => exact State.unlessHeld_same _ s.pendingPost_same run
  case unloadCompletion => exact State.unlessHeld_same _ s.completeUnload_same run
  case abort wire =>
    refine State.unlessHeld_same _ ?_ run
    rw [s.receive_abort wire fits]
    simp [SameOutside, taken]

end
end

section
/-! The step, the clock, the reset line, insertion, and the orders that are answered at once (O1 to O4, O27, O34,
O41). -/
set_option Elab.async false

namespace Sys2Proof.Machine
open Sys2Proof.Safety

theorem step_waiting (c : Instr) (rest : List Instr) (s : State) :
    step (s.setPending (c :: rest)) = exec c (s.setPending rest) := rfl

theorem step_idle (s : State) (idle : s.pending = []) : step s = .next s.tick := by
  unfold step
  rw [idle]

/-! ### The reset line -/

theorem State.unlessHeld_held (s : State) (f : State → State) (held : s.held = true) :
    s.unlessHeld f = .next s := by
  simp [State.unlessHeld, held]

theorem exec_held (c : Instr) (s : State) (held : s.held = true) (asserted : c ≠ .hardwareResetAsserted)
    (released : ∀ straps cartridge, c ≠ .hardwareResetReleased straps cartridge) : exec c s = .next s := by
  cases c
  case hardwareResetAsserted => exact absurd rfl asserted
  case hardwareResetReleased p k => exact absurd rfl (released p k)
  all_goals exact congrArg Host.Outcome.next (if_pos held)

/-! ### Insertion and the spin-up timer -/

theorem State.insert_empty (tab : Bool) (s : State) (empty : s.drive.state = .empty) :
    s.insert tab = (s.setDrive { s.drive with
      state := .spinningUp, tab := some tab, spindle := true, spinUp := some 0, counter := 0,
      period := none, tracking := false, speed := .offSpeed, good := 0, tried := false }).setPort
      (s.port ++ [.spindleOn]) := by
  unfold State.insert
  rw [if_pos empty]
  rfl

theorem State.insert_passed (tab : Bool) (s : State) (taken : s.drive.state ≠ .empty) : s.insert tab = s := by
  unfold State.insert
  rw [if_neg taken]

theorem State.spindleOff_eq (s : State) :
    s.spindleOff = ((s.setDrive { s.drive with
      spindle := false, counter := 0, period := none, tracking := false, speed := .offSpeed, good := 0 }).setHead
      { s.head with track := none, bias := .unset }).setPort
        (s.port ++ if s.drive.spindle then [.spindleOff] else []) := by
  unfold State.spindleOff
  cases s.drive.spindle
  · simp only [Bool.false_eq_true, if_false, List.append_nil]
    rfl
  · rfl

theorem State.mountFails_eq (c : MountFault) (s : State) : s.mountFails c = mountFailed c s := by
  unfold State.mountFails
  rw [State.spindleOff_eq]
  rfl

/-! ### The clock -/

/-- A timer goes on, or is stopped, or starts afresh. -/
def Fresh (old new : Option Nat) : Prop := new = old ∨ new = none ∨ new = some 0

theorem Fresh.trans {a b c : Option Nat} (h : Fresh a b) (k : Fresh b c) : Fresh a c := by
  rcases k with rfl | rfl | rfl
  · exact h
  · exact .inr (.inl rfl)
  · exact .inr (.inr rfl)

theorem Fresh.atLimit {limit : Nat} {old new : Option Nat} (h : Fresh old new) (pos : 0 < limit)
    (due : atLimit limit old = false) : atLimit limit new = false := by
  rcases h with rfl | rfl | rfl
  · exact due
  · rfl
  · exact decide_eq_false (by omega)

/-- The timers of the head and of the data go on, stop, or start afresh from one state to the other. -/
structure TimersFresh (s t : State) : Prop where
  seek : Fresh s.head.seekTimer t.head.seekTimer
  bias : Fresh s.head.biasTimer t.head.biasTimer
  hold : Fresh s.head.holdTimer t.head.holdTimer
  data : Fresh s.dataTimer t.dataTimer

theorem TimersFresh.trans {s t u : State} (h : TimersFresh s t) (k : TimersFresh t u) : TimersFresh s u :=
  ⟨h.seek.trans k.seek, h.bias.trans k.bias, h.hold.trans k.hold, h.data.trans k.data⟩

theorem timersFresh_of_eq {s t : State} (head : t.head = s.head) (data : t.dataTimer = s.dataTimer) :
    TimersFresh s t := by
  refine ⟨.inl ?_, .inl ?_, .inl ?_, .inl data⟩ <;> rw [head]

theorem timersFresh_refl (s : State) : TimersFresh s s := timersFresh_of_eq rfl rfl

theorem timersFresh_of_same {f : Footprint} {s t : State} (same : SameOutside f s t) (head : f.head = false) :
    TimersFresh s t := by
  obtain ⟨-, -, -, -, -, -, kept, -⟩ := same
  obtain ⟨h, d⟩ := kept head
  exact timersFresh_of_eq h d

theorem idle_timers (s : State) : TimersFresh s (idle s) :=
  ⟨.inr (.inl rfl), .inr (.inl rfl), .inr (.inl rfl), .inr (.inl rfl)⟩

theorem passAwaited_timers (s : State) : TimersFresh s (passAwaited s) := by
  have start : TimersFresh s (if s.head.pass.gated = true ∧ s.drive.speed = .offSpeed then
      s.setHead { s.head with activity := .holding, holdTimer := some 0 }
    else s.setHead { s.head with activity := .awaitingStart }) := by
    split
    · exact ⟨.inl rfl, .inl rfl, .inr (.inr rfl), .inl rfl⟩
    · exact ⟨.inl rfl, .inl rfl, .inl rfl, .inl rfl⟩
  unfold passAwaited
  dsimp only
  split
  · exact start
  · split
    · exact start
    · exact ⟨.inl rfl, .inr (.inr rfl), .inl rfl, .inl rfl⟩

theorem runBegun_timers (r : Run) (pass : PassKind) (later : List PassKind) (s : State) :
    TimersFresh s (runBegun r pass later s) := by
  unfold runBegun
  dsimp only
  split
  · refine TimersFresh.trans ?_ (passAwaited_timers _)
    exact ⟨.inr (.inl rfl), .inr (.inl rfl), .inr (.inl rfl), .inl rfl⟩
  · exact ⟨.inr (.inr rfl), .inr (.inl rfl), .inr (.inl rfl), .inl rfl⟩

theorem State.startRun_timers (r : Run) (passes : PassKind × List PassKind) (s : State) :
    TimersFresh s (s.startRun r passes) :=
  State.startRun_eq r passes.1 passes.2 s ▸ runBegun_timers _ _ _ _

theorem State.startBlocks_timers (it : WorkItem) (st : Option SlotState) (passes : PassKind × List PassKind)
    (s : State) : TimersFresh s (s.startBlocks it st passes) := by
  unfold State.startBlocks
  dsimp only
  split
  · exact timersFresh_refl s
  · exact State.startRun_timers _ _ _

theorem State.formRun_timers (s : State) : TimersFresh s s.formRun := by
  unfold State.formRun
  split
  · exact timersFresh_refl s
  · split
    · split
      · exact State.startBlocks_timers _ _ _ _
      · exact ⟨.inl rfl, .inl rfl, .inl rfl, .inr (.inr rfl)⟩
    · split
      · exact State.startBlocks_timers _ _ _ _
      · exact ⟨.inl rfl, .inl rfl, .inl rfl, .inl rfl⟩
    · exact State.startBlocks_timers _ _ _ _
    · exact timersFresh_refl s

theorem State.resumeFetch_timers (s : State) : TimersFresh s s.resumeFetch := by
  unfold State.resumeFetch
  split
  · exact timersFresh_refl s
  · split
    · exact s.formRun_timers
    · exact timersFresh_refl s

theorem State.settle_timers (s : State) : TimersFresh s s.settle := by
  have calm : TimersFresh s s.placeAllPending.walk :=
    (timersFresh_of_same s.placeAllPending_same rfl).trans (timersFresh_of_same (State.walk_same _) rfl)
  refine calm.trans (State.resumeFetch_timers _)

theorem State.endItem_timers (o : ItemOutcome) (c : WriteCause) (s : State) : TimersFresh s (s.endItem o c) := by
  unfold State.endItem
  dsimp only
  refine TimersFresh.trans (s.clearHead_eq_idle ▸ idle_timers s) ?_
  generalize s.clearHead = t
  split
  · exact timersFresh_refl t
  · split
    · exact timersFresh_of_eq rfl rfl
    · exact (timersFresh_of_same (State.finishItem_same _ _ _ _ _) rfl).trans (State.settle_timers _)

theorem State.startRewrite_timers (s : State) : TimersFresh s s.startRewrite := by
  unfold State.startRewrite
  split
  · split
    · exact timersFresh_refl s
    · exact State.startRun_timers _ _ _
  · exact timersFresh_refl s

theorem State.startControlRead_timers (r : ControlRead) (s : State) : TimersFresh s (s.startControlRead r) := by
  unfold State.startControlRead
  dsimp only
  refine TimersFresh.trans (t := s.mapHead fun h => { h.cleared with
    task := .controlRead r, readIn := if r = .listEntries then h.readIn else [] })
    ⟨.inr (.inl rfl), .inr (.inl rfl), .inr (.inl rfl), .inl rfl⟩ ?_
  cases r <;> exact State.startRun_timers _ _ _

theorem State.mountFails_timers (c : MountFault) (s : State) : TimersFresh s (s.mountFails c) :=
  s.mountFails_eq c ▸ ⟨.inl rfl, .inl rfl, .inl rfl, .inl rfl⟩

theorem State.controlReadFails_timers (r : ControlRead) (s : State) : TimersFresh s (s.controlReadFails r) := by
  unfold State.controlReadFails
  dsimp only
  refine TimersFresh.trans (s.clearHead_eq_idle ▸ idle_timers s) ?_
  generalize s.clearHead = t
  have list : TimersFresh t (t.listRead none) := by
    unfold State.listRead
    cases t.drive.facts <;> exact t.mountFails_timers .list
  have table : TimersFresh t (t.extentsRead none) := by
    have mounts (u : State) : TimersFresh u u.mountSucceeds := timersFresh_of_same u.mountSucceeds_same rfl
    have emptied : TimersFresh t
        ((t.setExtents (List.replicate Config.extentEntries Extent.blank)).notify .tableMissing) :=
      timersFresh_of_eq rfl rfl
    exact emptied.trans (mounts _)
  cases r
  · exact t.mountFails_timers .format
  · exact list
  · exact list
  · exact table

theorem State.endTask_timers (o : ItemOutcome) (c : WriteCause) (s : State) : TimersFresh s (s.endTask o c) := by
  have cleared (t : State) (h : t.head = s.head) (d : t.dataTimer = s.dataTimer) : TimersFresh s t.clearHead :=
    (timersFresh_of_eq h d).trans (t.clearHead_eq_idle ▸ idle_timers t)
  unfold State.endTask
  split
  · exact timersFresh_refl s
  · split
    · dsimp only
      refine (timersFresh_of_eq rfl rfl : TimersFresh s (s.notifyWriteFailed o c)).trans ?_
      generalize s.notifyWriteFailed o c = t
      split
      · exact timersFresh_refl t
      · split
        · exact t.endItem_timers o c
        · refine TimersFresh.trans ?_ (State.startRewrite_timers _)
          exact ⟨.inl rfl, .inl rfl, .inl rfl, .inl rfl⟩
    · exact s.endItem_timers o c
  · exact cleared _ rfl rfl
  · exact cleared _ rfl rfl
  · exact cleared _ rfl rfl
  · exact s.controlReadFails_timers _

theorem State.spinUpExpires_timers (s : State) : TimersFresh s s.spinUpExpires := by
  unfold State.spinUpExpires
  split
  · exact s.mountFails_timers .spin
  · exact timersFresh_refl s

theorem State.seekExpires_timers (s : State) : TimersFresh s s.seekExpires := by
  unfold State.seekExpires
  split
  · split
    · unfold State.commandSeek
      split
      · exact timersFresh_refl s
      · exact ⟨.inr (.inr rfl), .inl rfl, .inl rfl, .inl rfl⟩
    · refine TimersFresh.trans ?_ (State.endTask_timers _ _ _)
      exact ⟨.inl rfl, .inl rfl, .inl rfl, .inl rfl⟩
  · exact timersFresh_refl s

theorem State.biasExpires_timers (s : State) : TimersFresh s s.biasExpires := by
  unfold State.biasExpires
  split
  · refine TimersFresh.trans ?_ (State.endTask_timers _ _ _)
    exact ⟨.inl rfl, .inl rfl, .inl rfl, .inl rfl⟩
  · exact timersFresh_refl s

theorem State.holdExpires_timers (s : State) : TimersFresh s s.holdExpires := by
  unfold State.holdExpires
  split
  · exact s.endTask_timers _ _
  · exact timersFresh_refl s

theorem atLimit_elapsed (limit : Nat) (t : Option Nat) :
    atLimit limit (runTimer t) = true ↔ Due limit t := by
  cases t <;> simp [atLimit, runTimer, Due]

theorem State.expire_due {due : Bool} (effect : State → State) (s : State) (h : due = true) :
    s.expire due effect = effect s := by simp [State.expire, h]

theorem State.expire_calm {due : Bool} (effect : State → State) (s : State) (h : due = false) :
    s.expire due effect = s := by simp [State.expire, h]

/-- The expiries of a tick, from the state one microsecond later on. -/
def State.expireAll (full : Bool) (s : State) : State :=
  let s := s.expire (atLimit Config.spinUpTime s.drive.spinUp) State.spinUpExpires
  let s := s.expire (atLimit Config.seekTime s.head.seekTimer) State.seekExpires
  let s := s.expire (atLimit Config.biasTime s.head.biasTimer) State.biasExpires
  let s := s.expire (atLimit Config.holdTime s.head.holdTimer) State.holdExpires
  let s := s.expire (atLimit Config.dataTime s.dataTimer) State.dataExpires
  s.expire full State.indexLoss

theorem State.tick_held (s : State) (held : s.held = true) : s.tick = s := by simp [State.tick, held]

theorem State.tick_free (s : State) (free : s.held = false) :
    s.tick = (elapsed s).expireAll (s.drive.spindle && decide (s.drive.counter + 1 = 65535)) := by
  unfold State.tick
  rw [if_neg (by simp [free])]
  rfl

section Expiries

variable {s : State}

theorem State.expireAll_calm (spinUp : atLimit Config.spinUpTime s.drive.spinUp = false)
    (seek : atLimit Config.seekTime s.head.seekTimer = false)
    (bias : atLimit Config.biasTime s.head.biasTimer = false)
    (hold : atLimit Config.holdTime s.head.holdTimer = false)
    (data : atLimit Config.dataTime s.dataTimer = false) (full : Bool) :
    s.expireAll full = s.expire full State.indexLoss := by
  unfold State.expireAll
  dsimp only
  rw [State.expire_calm _ s spinUp, State.expire_calm _ s seek, State.expire_calm _ s bias,
    State.expire_calm _ s hold, State.expire_calm _ s data]

theorem State.expireAll_spinUp (spinUp : atLimit Config.spinUpTime s.drive.spinUp = true)
    (seek : atLimit Config.seekTime s.head.seekTimer = false)
    (bias : atLimit Config.biasTime s.head.biasTimer = false)
    (hold : atLimit Config.holdTime s.head.holdTimer = false)
    (data : atLimit Config.dataTime s.dataTimer = false) : s.expireAll false = s.spinUpExpires := by
  have after := s.spinUpExpires_timers
  unfold State.expireAll
  dsimp only
  rw [State.expire_due _ s spinUp, State.expire_calm _ _ (after.seek.atLimit (by decide) seek),
    State.expire_calm _ _ (after.bias.atLimit (by decide) bias),
    State.expire_calm _ _ (after.hold.atLimit (by decide) hold),
    State.expire_calm _ _ (after.data.atLimit (by decide) data), State.expire_calm _ _ rfl]

theorem State.expireAll_seek (spinUp : atLimit Config.spinUpTime s.drive.spinUp = false)
    (seek : atLimit Config.seekTime s.head.seekTimer = true)
    (bias : atLimit Config.biasTime s.head.biasTimer = false)
    (hold : atLimit Config.holdTime s.head.holdTimer = false)
    (data : atLimit Config.dataTime s.dataTimer = false) : s.expireAll false = s.seekExpires := by
  have after := s.seekExpires_timers
  unfold State.expireAll
  dsimp only
  rw [State.expire_calm _ s spinUp, State.expire_due _ s seek,
    State.expire_calm _ _ (after.bias.atLimit (by decide) bias),
    State.expire_calm _ _ (after.hold.atLimit (by decide) hold),
    State.expire_calm _ _ (after.data.atLimit (by decide) data), State.expire_calm _ _ rfl]

theorem State.expireAll_bias (spinUp : atLimit Config.spinUpTime s.drive.spinUp = false)
    (seek : atLimit Config.seekTime s.head.seekTimer = false)
    (bias : atLimit Config.biasTime s.head.biasTimer = true)
    (hold : atLimit Config.holdTime s.head.holdTimer = false)
    (data : atLimit Config.dataTime s.dataTimer = false) : s.expireAll false = s.biasExpires := by
  have after := s.biasExpires_timers
  unfold State.expireAll
  dsimp only
  rw [State.expire_calm _ s spinUp, State.expire_calm _ s seek, State.expire_due _ s bias,
    State.expire_calm _ _ (after.hold.atLimit (by decide) hold),
    State.expire_calm _ _ (after.data.atLimit (by decide) data), State.expire_calm _ _ rfl]

theorem State.expireAll_hold (spinUp : atLimit Config.spinUpTime s.drive.spinUp = false)
    (seek : atLimit Config.seekTime s.head.seekTimer = false)
    (bias : atLimit Config.biasTime s.head.biasTimer = false)
    (hold : atLimit Config.holdTime s.head.holdTimer = true)
    (data : atLimit Config.dataTime s.dataTimer = false) : s.expireAll false = s.holdExpires := by
  have after := s.holdExpires_timers
  unfold State.expireAll
  dsimp only
  rw [State.expire_calm _ s spinUp, State.expire_calm _ s seek, State.expire_calm _ s bias,
    State.expire_due _ s hold, State.expire_calm _ _ (after.data.atLimit (by decide) data),
    State.expire_calm _ _ rfl]

theorem State.expireAll_data (spinUp : atLimit Config.spinUpTime s.drive.spinUp = false)
    (seek : atLimit Config.seekTime s.head.seekTimer = false)
    (bias : atLimit Config.biasTime s.head.biasTimer = false)
    (hold : atLimit Config.holdTime s.head.holdTimer = false)
    (data : atLimit Config.dataTime s.dataTimer = true) : s.expireAll false = s.dataExpires := by
  unfold State.expireAll
  dsimp only
  rw [State.expire_calm _ s spinUp, State.expire_calm _ s seek, State.expire_calm _ s bias,
    State.expire_calm _ s hold, State.expire_due _ s data, State.expire_calm _ _ rfl]

end Expiries

/-! ### The orders that are answered at once -/

theorem Extent.mark_eq (oi : Bool) (e : Extent) :
    e.mark oi = if e.v = false then e else if oi then { e with oi := true } else { e with si := true } := by
  unfold Extent.mark
  cases e.v <;> rfl

theorem State.markAllOrder_eq (c tag choice : Byte) (s : State) (service : c.getLsbD 0 = true) :
    s.markAllOrder c tag [choice] = reports (s.setExtents (s.extents.map fun e =>
        if e.v = false then e else if choice.getLsbD 0 then { e with oi := true } else { e with si := true }))
      [.answer Kind.markAll tag .ok (.count (s.extents.filter fun e => e.v).length)] := by
  unfold State.markAllOrder
  refine Eq.trans (State.handOver_passes _ _ _ _ _ _ _ rfl fun _ => service) ?_
  simp only [← Extent.mark_eq]
  rfl

theorem State.setProfileOrder_eq (c tag x v u : Byte) (s : State) (service : c.getLsbD 0 = true) :
    s.setProfileOrder c tag [x, v, u] =
      let new := s.profile.change x v u
      reports ((s.setProfile new).setList { s.list with request := s.list.request || s.raisesRequest new })
        [.answer Kind.setProfile tag .ok (.profile new)] := by
  unfold State.setProfileOrder
  refine Eq.trans (State.handOver_passes _ _ _ _ _ _ _ rfl fun _ => service) ?_
  rfl

theorem State.showStateOrder_eq (c tag : Byte) (s : State) :
    s.showStateOrder c tag [] = reports s [.answer Kind.showState tag .ok (.state s.snapshot)] := by
  unfold State.showStateOrder
  refine Eq.trans (State.handOver_passes _ _ _ _ _ _ _ rfl nofun) ?_
  rfl

end Sys2Proof.Machine

section

open Sys2Proof Sys2Proof.Machine Sys2Proof.Safety

/-- Settles O1. -/
theorem stepRunsTheFrontCommand : Obligations.StepRunsTheFrontCommand := by
  unfold Obligations.StepRunsTheFrontCommand
  exact step_waiting

/-- Settles O2: an expiry leaves every other timer as it is, stopped, or afresh, so no second one is due. -/
theorem anIdleStepIsOneMicrosecond : Obligations.AnIdleStepIsOneMicrosecond := by
  unfold Obligations.AnIdleStepIsOneMicrosecond
  intro s empty
  rw [step_idle s empty]
  refine ⟨fun held => by rw [s.tick_held held], fun free => ?_⟩
  rw [s.tick_free free]
  dsimp only
  simp only [← atLimit_elapsed]
  have full : (s.drive.spindle && decide (s.drive.counter + 1 = 65535)) = true ↔
      s.drive.spindle = true ∧ s.drive.counter + 1 = 65535 := by simp
  rw [← full]
  simp only [Bool.not_eq_true]
  generalize (s.drive.spindle && decide (s.drive.counter + 1 = 65535)) = full
  have runs (f : State → State) : (elapsed s).unlessHeld f = .next (f (elapsed s)) :=
    State.unlessHeld_free _ f free
  refine ⟨?_, ?_, ?_, ?_, ?_, ?_, ?_⟩ <;> rintro spinUp seek bias hold data rfl
  · rw [State.expireAll_calm (s := elapsed s) spinUp seek bias hold data, State.expire_calm _ _ rfl]
  · exact State.expireAll_spinUp (s := elapsed s) spinUp seek bias hold data ▸ (runs _).symm
  · exact State.expireAll_seek (s := elapsed s) spinUp seek bias hold data ▸ (runs _).symm
  · exact State.expireAll_bias (s := elapsed s) spinUp seek bias hold data ▸ (runs _).symm
  · exact State.expireAll_hold (s := elapsed s) spinUp seek bias hold data ▸ (runs _).symm
  · exact State.expireAll_data (s := elapsed s) spinUp seek bias hold data ▸ (runs _).symm
  · rw [State.expireAll_calm (s := elapsed s) spinUp seek bias hold data, State.expire_due _ _ rfl]
    exact (runs _).symm

/-- Settles O3. -/
theorem theResetLineHoldsThePartAtItsResetValues : Obligations.TheResetLineHoldsThePartAtItsResetValues := by
  unfold Obligations.TheResetLineHoldsThePartAtItsResetValues
  refine ⟨exec_held, fun s => ⟨s.holdReset, rfl, rfl, rfl, ?_, rfl, rfl, rfl, rfl, rfl, rfl, rfl, rfl, rfl, rfl,
    rfl, rfl, rfl, rfl, rfl, rfl, rfl, rfl, rfl, rfl, rfl⟩⟩
  intro x hx
  obtain rfl := List.eq_of_mem_replicate hx
  exact ⟨rfl, rfl⟩

/-- Settles O4. -/
theorem releaseOfResetSamplesTheStraps : Obligations.ReleaseOfResetSamplesTheStraps := by
  unfold Obligations.ReleaseOfResetSamplesTheStraps
  intro s p s'
  refine ⟨rfl, fun tab empty => ?_⟩
  have inserted : s'.insert tab = _ := s'.insert_empty tab empty
  exact congrArg Host.Outcome.next inserted

/-- Settles O27. -/
theorem markAllSetsTheChosenAttribute : Obligations.MarkAllSetsTheChosenAttribute := by
  unfold Obligations.MarkAllSetsTheChosenAttribute
  intro c tag choice s free service
  refine (s.takeFrame_free _ free).trans (congrArg Host.Outcome.next ?_)
  exact State.markAllOrder_eq c tag choice (taken s) service

/-- Settles O34. -/
theorem insertionAndSpinUpTimeout : Obligations.InsertionAndSpinUpTimeout := by
  unfold Obligations.InsertionAndSpinUpTimeout
  intro s free
  have expires : exec .spinUpTimeout s = .next s.spinUpExpires := s.unlessHeld_free _ free
  refine ⟨fun tab empty => ?_, fun tab elsewhere => ?_, fun spinning running slow on => ?_, fun calm => ?_⟩
  · exact (s.unlessHeld_free _ free).trans (congrArg Host.Outcome.next (s.insert_empty tab empty))
  · exact (s.unlessHeld_free _ free).trans (congrArg Host.Outcome.next (s.insert_passed tab elsewhere))
  · rw [expires, State.spinUpExpires, if_pos ⟨spinning, running, slow⟩, State.mountFails_eq, mountFailed, if_pos on]
  · rw [expires, State.spinUpExpires, if_neg]
    rintro ⟨spinning, running, slow⟩
    simp [spinning, slow] at calm
    simp [calm] at running

/-- Settles O41. -/
theorem theProfileIsSetAndTheStateShown : Obligations.TheProfileIsSetAndTheStateShown := by
  unfold Obligations.TheProfileIsSetAndTheStateShown
  refine ⟨fun c tag x v u s free service => ?_, fun c tag s free => ?_⟩
  · refine (s.takeFrame_free _ free).trans (congrArg Host.Outcome.next ?_)
    have set := State.setProfileOrder_eq c tag x v u (taken s) service
    simp only [Profile.change, select_eq] at set
    exact set
  · refine (s.takeFrame_free _ free).trans (congrArg Host.Outcome.next ?_)
    exact State.showStateOrder_eq c tag (taken s)

end

end

section
/-! Protection and the fault record, and the halts of several lanes at once (O22, O23, and what O18, O37, O39, O42,
O44 and O46 need of them). -/
set_option Elab.async false

namespace Sys2Proof.Machine
open Sys2Proof.Safety

/-! ### The checks of an access -/

theorem CauseSet.any_iff (c : CauseSet) : c.any = true ↔ c ≠ CauseSet.empty := by
  obtain ⟨a, r, w, v, l, o⟩ := c
  cases a <;> cases r <;> cases w <;> cases v <;> cases l <;> cases o <;> decide

theorem State.entry_beyond (s : State) (n : Nat) (h : 48 ≤ n) : s.entry n = Extent.blank :=
  if_neg (by simp only [Config.extentEntries]; omega)

theorem State.entry_of_getElem? {s : State} (size : s.extents.length = 48) {n : Nat} {e : Extent}
    (h : s.extents[n]? = some e) : s.entry n = e := by
  have inside : n < 48 := size ▸ (List.getElem?_eq_some_iff.mp h).1
  refine (if_pos inside).trans ?_
  rw [List.getD_eq_getElem?_getD, h, Option.getD_some]

theorem causesOf_absent (e : Extent) (a : Access) (h : e.v = false) :
    causesOf e a = ⟨true, false, false, false, false, false⟩ := by simp [causesOf, h, CauseSet.onlyAbsent]

theorem causesOf_valid (e : Extent) (a : Access) (h : e.v = true) :
    let c := causesOf e a
    c.absent = false ∧ (c.range = true ↔ a.first < e.low ∨ e.high < a.last) ∧
      (c.roWrite = true ↔ a.kind ≠ .fetch ∧ e.ro = true) ∧
      (c.serviceOnly = true ↔ a.cls = .ordinary ∧ e.sv = true) ∧
      (c.laneInhibit = true ↔ (a.kind = .startLane ∨ a.kind = .lanePost) ∧ e.si = true) ∧
      (c.orderInhibit = true ↔ (a.kind = .fetch ∨ a.kind = .place ∨ a.kind = .blank) ∧ e.oi = true) := by
  simp only [causesOf, h, if_true]
  cases a.kind <;> simp [AccessKind.writes, AccessKind.isOrder]

theorem State.causes_checked (s : State) (a : Access) (size : s.extents.length = 48) :
    (48 ≤ a.extent → s.causes a = ⟨true, false, false, false, false, false⟩) ∧
    ∀ e, s.extents[a.extent]? = some e → s.entry a.extent = e ∧
      (e.v = false → s.causes a = ⟨true, false, false, false, false, false⟩) ∧
      (e.v = true →
        ((s.causes a).absent = false) ∧
        ((s.causes a).range = true ↔ a.first < e.low ∨ e.high < a.last) ∧
        ((s.causes a).roWrite = true ↔ a.kind ≠ .fetch ∧ e.ro = true) ∧
        ((s.causes a).serviceOnly = true ↔ a.cls = .ordinary ∧ e.sv = true) ∧
        ((s.causes a).laneInhibit = true ↔ (a.kind = .startLane ∨ a.kind = .lanePost) ∧ e.si = true) ∧
        ((s.causes a).orderInhibit = true ↔
          (a.kind = .fetch ∨ a.kind = .place ∨ a.kind = .blank) ∧ e.oi = true)) := by
  refine ⟨fun beyond => ?_, fun e found => ?_⟩
  · rw [State.causes, s.entry_beyond _ beyond]
    exact causesOf_absent _ a rfl
  · have entry := State.entry_of_getElem? size found
    rw [State.causes, entry]
    exact ⟨rfl, causesOf_absent e a, causesOf_valid e a⟩

theorem offendingOffset_checked (e : Extent) (a : Access) (c : CauseSet) :
    let rangeAlone : CauseSet := ⟨false, true, false, false, false, false⟩
    (c ≠ rangeAlone → offendingOffset e a c = a.first) ∧
    (a.first < e.low ∨ e.high < a.first → offendingOffset e a rangeAlone = a.first) ∧
    (e.low ≤ a.first → a.first ≤ e.high → offendingOffset e a rangeAlone = e.high + 1) := by
  refine ⟨fun other => if_neg other, fun outside => ?_, fun low high => ?_⟩
  · exact (if_pos rfl).trans (if_pos outside)
  · exact (if_pos rfl).trans (if_neg (by omega))

theorem beyondUsers_some (f : Facts) (e : Extent) (a : Access) :
    beyondUsers (some f) e a = true ↔ f.users ≤ 64 * e.base.toNat + (a.last - e.low) := by
  unfold beyondUsers
  exact decide_eq_true_iff.trans (by rw [Extent.psa_eq])

theorem PatternMode.banded_iff (m : PatternMode) : m.banded = true ↔ m = .band ∨ m = .ring := by
  cases m <;> decide

theorem Descriptor.startable_iff (d : Descriptor) :
    d.startable = true ↔ (d.mode = .run ∨ d.mode = .band ∨ d.mode = .ring) ∧ 1 ≤ d.count.toNat ∧
      (d.mode = .band ∨ d.mode = .ring → 1 ≤ d.band.toNat ∧ d.band.toNat ≤ 64 ∧
        d.band.toNat ≤ d.stride.toNat ∧ d.stride.toNat ≤ 4096) := by
  cases mode : d.mode <;> simp [Descriptor.startable, mode, PatternMode.banded, and_assoc]

theorem Descriptor.footprint_eq (d : Descriptor) (cls : OrderClass) (n : Nat) :
    d.footprint cls n =
      { kind := .startLane, cls := cls, route := .lane n, extent := d.extent.toNat, first := d.start.toNat
        last := if d.mode = .band ∨ d.mode = .ring then
            d.start.toNat + (d.count.toNat - 1) * d.stride.toNat + d.band.toNat - 1
          else d.start.toNat + d.count.toNat - 1 } := by
  simp only [Descriptor.footprint, Descriptor.footprintEnd, PatternMode.banded_iff]

theorem touchesEdge_iff (e : Extent) (a : Access) :
    touchesEdge e a = true ↔ e.wa = true ∧ (a.kind = .place ∨ a.kind = .blank ∨ a.kind = .lanePost) ∧
      (if e.ds then a.first ≤ e.low + 63 else 64 * e.limit.toNat ≤ a.last) := by
  have kinds : a.kind.writes = true ∧ a.kind ≠ .startLane ↔
      a.kind = .place ∨ a.kind = .blank ∨ a.kind = .lanePost := by cases a.kind <;> decide
  unfold touchesEdge
  cases e.ds
  · simp only [Bool.and_eq_true, decide_eq_true_eq, Bool.false_eq_true, if_false, and_assoc, ← kinds]
    rfl
  · simp only [Bool.and_eq_true, decide_eq_true_eq, if_true, and_assoc, ← kinds]
    rfl

/-! ### What reaches the fault record -/

theorem State.recordEdge_empty (a : Access) (s : State) (empty : s.fault.captured = none) :
    let access := a.captured (edgeOffset (s.entry a.extent) a)
    let r : FaultRecord := ⟨CauseSet.empty, true, false, false, some access⟩
    s.recordEdge a = reports (s.setFault r) [.notice (.nearFull .first r access)] := by
  have state := (FaultRecord.state_cases s.fault).1.mpr empty
  simp only [State.recordEdge, state]
  rfl

theorem State.recordEdge_held (a : Access) (s : State) (held : s.fault.captured ≠ none)
    (calm : s.fault.overrun = false) :
    let access := a.captured (edgeOffset (s.entry a.extent) a)
    let r : FaultRecord := { s.fault with secondEdge := true }
    s.recordEdge a = if s.fault.secondEdge then s
      else reports (s.setFault r) [.notice (.nearFull .second r access)] := by
  have state := (FaultRecord.state_cases s.fault).2.1.mpr ⟨held, calm⟩
  simp only [State.recordEdge, state]
  rfl

theorem State.recordEdge_overrun (a : Access) (s : State) (held : s.fault.captured ≠ none)
    (overrun : s.fault.overrun = true) : s.recordEdge a = s := by
  have state := (FaultRecord.state_cases s.fault).2.2.mpr ⟨held, overrun⟩
  simp only [State.recordEdge, state]

theorem State.edgeCheck_cases (s : State) (a : Access) :
    let e := s.entry a.extent
    let touched := e.wa = true ∧ (a.kind = .place ∨ a.kind = .blank ∨ a.kind = .lanePost) ∧
      (if e.ds then a.first ≤ e.low + 63 else 64 * e.limit.toNat ≤ a.last)
    (¬ touched → s.edgeCheck a = s) ∧ (touched → s.edgeCheck a = s.recordEdge a) := by
  intro e touched
  have iff : touchesEdge e a = true ↔ touched := touchesEdge_iff e a
  exact ⟨fun no => if_neg (mt iff.mp no), fun yes => if_pos (iff.mpr yes)⟩

/-! ### Several lanes halted at once -/

theorem freeItemSlots_congr {ids ids' : List Nat} (h : ∀ i, i ∈ ids ↔ i ∈ ids') (sl : List Slot) :
    freeItemSlots ids sl = freeItemSlots ids' sl := by
  refine List.map_congr_left fun x _ => ?_
  have same : x.heldBy ids = x.heldBy ids' := by
    unfold Slot.heldBy
    cases x.holder
    · rfl
    · simp [h]
  rw [same]

theorem Slot.heldBy_release (ids : List Nat) (x : Slot) : x.release.heldBy ids = false := rfl

theorem freeItemSlots_append (ids ids' : List Nat) (sl : List Slot) :
    freeItemSlots ids' (freeItemSlots ids sl) = freeItemSlots (ids ++ ids') sl := by
  simp only [freeItemSlots, List.map_map]
  refine List.map_congr_left fun x _ => ?_
  have both : x.heldBy (ids ++ ids') = (x.heldBy ids || x.heldBy ids') := by
    unfold Slot.heldBy
    cases x.holder <;> simp
  simp only [Function.comp, both]
  cases held : x.heldBy ids
  · simp
  · simp [Slot.heldBy_release]

theorem withoutWaiting_congr {which which' : Nat → Bool} (h : ∀ n < 4, which n = which' n) (s : State) :
    withoutWaiting which s = withoutWaiting which' s := by
  have same (it : WorkItem) : ((List.range 4).any fun n => which n && it.isWaitingOf n) =
      (List.range 4).any fun n => which' n && it.isWaitingOf n := by
    simp [List.range, List.range.loop, h 0, h 1, h 2, h 3]
  simp only [withoutWaiting, same]

theorem withoutWaiting_none (s : State) : withoutWaiting (fun _ => false) s = s := by
  have none (ids : List Nat) (h : ids = []) : freeItemSlots ids s.slots = s.slots := by
    subst h
    refine (List.map_congr_left fun x _ => ?_).trans (List.map_id _)
    have free : x.heldBy [] = false := by
      unfold Slot.heldBy
      cases x.holder <;> rfl
    simp [free]
  have stay : ((List.range 4).any fun _ => false) = false := rfl
  simp only [withoutWaiting, Bool.false_and, stay, Bool.not_false, List.filter_true]
  rw [none _ (by simp)]
  rfl

/-- The WAITING items of one more lane leave. -/
theorem State.removeWaiting_withoutWaiting (which : Nat → Bool) (n : Nat) (h : n < 4) (s : State) :
    (withoutWaiting which s).removeWaiting n = withoutWaiting (fun m => which m || m == n) s := by
  rw [State.removeWaiting_eq _ n h]
  have single (it : WorkItem) : ((List.range 4).any fun m => (m == n) && it.isWaitingOf m) = it.isWaitingOf n := by
    rw [Bool.eq_iff_iff]
    simp [List.any_eq_true, h]
  have more (it : WorkItem) : ((List.range 4).any fun m => (which m || m == n) && it.isWaitingOf m) =
      (((List.range 4).any fun m => which m && it.isWaitingOf m) || it.isWaitingOf n) := by
    rw [← single it]
    rw [Bool.eq_iff_iff]
    simp only [List.any_eq_true, Bool.or_eq_true, Bool.and_eq_true]
    exact ⟨fun ⟨m, hm, w, i⟩ => w.elim (fun w => .inl ⟨m, hm, w, i⟩) fun w => .inr ⟨m, hm, w, i⟩,
      fun w => w.elim (fun ⟨m, hm, w, i⟩ => ⟨m, hm, .inl w, i⟩) fun ⟨m, hm, w, i⟩ => ⟨m, hm, .inr w, i⟩⟩
  unfold withoutWaiting
  simp only [single, more, State.setSlots_queue, State.setQueue_queue, State.setSlots_slots, List.filter_filter,
    freeItemSlots_append]
  have queue : (s.queue.filter fun it => !it.isWaitingOf n &&
        !((List.range 4).any fun m => which m && it.isWaitingOf m)) =
      s.queue.filter fun it => !(((List.range 4).any fun m => which m && it.isWaitingOf m) || it.isWaitingOf n) :=
    List.filter_congr fun it _ => by rw [Bool.not_or, Bool.and_comm]
  rw [queue]
  have slots := freeItemSlots_congr (sl := s.slots)
    (ids := (s.queue.filter fun it => (List.range 4).any fun m => which m && it.isWaitingOf m).map WorkItem.id ++
      (s.queue.filter fun it => it.isWaitingOf n &&
        !((List.range 4).any fun m => which m && it.isWaitingOf m)).map WorkItem.id)
    (ids' := (s.queue.filter fun it =>
      ((List.range 4).any fun m => which m && it.isWaitingOf m) || it.isWaitingOf n).map WorkItem.id) fun i => by
    simp only [List.mem_append, List.mem_map, List.mem_filter, Bool.or_eq_true, Bool.and_eq_true, Bool.not_eq_true']
    constructor
    · rintro (⟨it, ⟨m, w⟩, e⟩ | ⟨it, ⟨m, w, -⟩, e⟩)
      · exact ⟨it, ⟨m, .inl w⟩, e⟩
      · exact ⟨it, ⟨m, .inr w⟩, e⟩
    · rintro ⟨it, ⟨m, w⟩, e⟩
      cases gone : (List.range 4).any fun m => which m && it.isWaitingOf m
      · rw [gone] at w
        exact .inr ⟨it, ⟨m, w.resolve_left nofun, gone⟩, e⟩
      · exact .inl ⟨it, ⟨m, gone⟩, e⟩
  rw [slots]
  rfl

/-- The lanes that `which` picks are HALTED, each with its cause; their WAITING items have left the queue. -/
def State.lanesHalted (which : Nat → Bool) (cause : Nat → HaltCause) (s : State) : State :=
  (withoutWaiting which s).setLanes (s.lanes.mapIdx fun n l =>
    if which n = true then { l with state := .halted, halt := some (cause n), pendingPost := none } else l)

theorem State.lanesHalted_none (cause : Nat → HaltCause) (s : State) :
    s.lanesHalted (fun _ => false) cause = s := by
  unfold State.lanesHalted
  rw [withoutWaiting_none]
  simp only [Bool.false_eq_true, if_false]
  have same : (s.lanes.mapIdx fun _ l => l) = s.lanes := List.ext_getElem (by simp) (by simp)
  rw [same]
  rfl

/-- The lane after several halts. -/
theorem State.lanesHalted_lane (which : Nat → Bool) (cause : Nat → HaltCause) (s : State) (n : Nat) :
    (s.lanesHalted which cause).lane n = if which n = true ∧ n < s.lanes.length then
      { s.lane n with state := .halted, halt := some (cause n), pendingPost := none } else s.lane n := by
  simp only [State.lane, State.lanesHalted, State.setLanes_lanes, List.getD_eq_getElem?_getD, List.getElem?_mapIdx]
  by_cases inside : n < s.lanes.length
  · simp only [List.getElem?_eq_getElem inside, Option.map_some, Option.getD_some, inside, and_true]
  · simp [inside]

/-- One more lane halts. -/
theorem State.haltSilently_lanesHalted (which : Nat → Bool) (cause : Nat → HaltCause) (n : Nat) (s : State)
    (h : n < 4) (other : which n = false) :
    (s.lanesHalted which cause).haltSilently true n (cause n) =
      s.lanesHalted (fun m => which m || m == n) cause := by
  have lane : (s.lanesHalted which cause).lane n = s.lane n := by
    rw [State.lanesHalted_lane, if_neg (by simp [other])]
  have removed : (s.lanesHalted which cause).removeWaiting n = ((withoutWaiting which s).removeWaiting n).setLanes
      (s.lanesHalted which cause).lanes := rfl
  have kept : ((s.lanesHalted which cause).removeWaiting n).lane n = s.lane n := lane
  unfold State.haltSilently
  simp only [if_true]
  rw [kept, removed, State.removeWaiting_withoutWaiting which n h]
  refine congrArg (fun ls => (withoutWaiting (fun m => which m || m == n) s).setLanes ls) ?_
  refine List.ext_getElem? fun m => ?_
  simp only [State.setLanes_lanes, State.lanesHalted, List.getElem?_set, List.getElem?_mapIdx, List.length_mapIdx]
  by_cases this : n = m
  · subst this
    by_cases inside : n < s.lanes.length
    · simp [inside, State.lane]
    · simp [inside]
  · simp [this, Ne.symm this]

/-- Of the lanes `ns`, those that `pick` picks by their state are halted one after another, each with the frames
`note` gives for it. -/
theorem State.foldl_halts (pick : LaneState → Bool) (cause : Nat → HaltCause) (note : Nat → List Frame) (s : State)
    (g : State → Nat → State)
    (hg : ∀ t n, n < 4 → t.lane n = s.lane n → t.queue ⊆ s.queue → g t n = if pick (t.lane n).state then
      reports (t.haltSilently true n (cause n)) (note n) else t) (ns : List Nat) :
    ∀ gone : List Nat, (gone ++ ns).Nodup → (∀ n ∈ ns, n < 4) →
      ns.foldl g (reports (s.lanesHalted (fun n => gone.contains n && pick (s.lane n).state) cause)
          ((gone.filter fun n => pick (s.lane n).state).flatMap note)) =
        reports (s.lanesHalted (fun n => (gone ++ ns).contains n && pick (s.lane n).state) cause)
          (((gone ++ ns).filter fun n => pick (s.lane n).state).flatMap note) := by
  induction ns with
  | nil => intro gone _ _; simp
  | cons n ns ih =>
    intro gone nodup inside
    have new : n ∉ gone := fun mem => (List.nodup_append.mp nodup).2.2 n mem n List.mem_cons_self rfl
    have more := ih (gone ++ [n]) (by simpa using nodup) fun m hm => inside m (List.mem_cons_of_mem _ hm)
    rw [List.append_assoc, List.singleton_append] at more
    rw [List.foldl_cons, ← more]
    refine congrArg (fun t => List.foldl g t ns) ?_
    have lane : (reports (s.lanesHalted (fun n => gone.contains n && pick (s.lane n).state) cause)
        ((gone.filter fun n => pick (s.lane n).state).flatMap note)).lane n = s.lane n := by
      refine (State.lanesHalted_lane _ _ _ _).trans (if_neg ?_)
      simp [new]
    have fewer : (reports (s.lanesHalted (fun n => gone.contains n && pick (s.lane n).state) cause)
        ((gone.filter fun n => pick (s.lane n).state).flatMap note)).queue ⊆ s.queue := List.filter_sublist.subset
    rw [hg _ n (inside n List.mem_cons_self) lane fewer, lane]
    cases picked : pick (s.lane n).state
    · have same : (fun m => (gone ++ [n]).contains m && pick (s.lane m).state) =
          fun m => gone.contains m && pick (s.lane m).state := by
        funext m
        by_cases this : m = n
        · subst this; simp [picked]
        · simp [this]
      rw [same]
      simp [picked]
    · have one := State.haltSilently_lanesHalted (fun n => gone.contains n && pick (s.lane n).state) cause n s
        (inside n List.mem_cons_self) (by simp [new])
      have same : (fun m => (gone ++ [n]).contains m && pick (s.lane m).state) =
          fun m => (gone.contains m && pick (s.lane m).state) || m == n := by
        funext m
        by_cases this : m = n
        · subst this; simp [picked]
        · simp [this]
      rw [same, ← one]
      simp only [if_true, List.filter_append, List.flatMap_append, List.filter_cons, picked, List.filter_nil,
        List.flatMap_cons, List.flatMap_nil, List.append_nil]
      simp only [reports, State.setOutbound, State.haltSilently, State.setLane, State.setLanes, if_true,
        State.removeWaiting, State.setQueue, State.setSlots, State.lane, List.append_assoc]

theorem laneNumbers_contains (n : Nat) : [0, 1, 2, 3].contains n = decide (n < 4) := by
  rw [Bool.eq_iff_iff]
  simp only [List.contains_eq_mem, List.mem_cons, List.not_mem_nil, or_false, decide_eq_true_eq]
  omega

theorem State.foldl_laneNumbers_halts (pick : LaneState → Bool) (cause : Nat → HaltCause) (note : Nat → List Frame)
    (s : State) (g : State → Nat → State)
    (hg : ∀ t n, n < 4 → t.lane n = s.lane n → t.queue ⊆ s.queue → g t n = if pick (t.lane n).state then
      reports (t.haltSilently true n (cause n)) (note n) else t) :
    laneNumbers.foldl g s = reports (s.lanesHalted (fun n => decide (n < 4) && pick (s.lane n).state) cause)
      (([0, 1, 2, 3].filter fun n => pick (s.lane n).state).flatMap note) := by
  have all := State.foldl_halts pick cause note s g hg [0, 1, 2, 3] [] (by decide) (by decide)
  have start : reports (s.lanesHalted (fun _ => false) cause) [] = s := by
    rw [State.lanesHalted_none]
    exact congrArg s.setOutbound (List.append_nil _)
  simp only [List.contains_nil, Bool.false_and, List.filter_nil, List.flatMap_nil, start, List.nil_append,
    laneNumbers_contains] at all
  exact all

theorem State.mapIdx_lanes_congr (s : State) (f g : Nat → Lane → Lane)
    (h : ∀ n, n < s.lanes.length → f n (s.lane n) = g n (s.lane n)) : s.lanes.mapIdx f = s.lanes.mapIdx g := by
  refine List.ext_getElem (by simp) fun n inside _ => ?_
  rw [List.length_mapIdx] at inside
  have lane : s.lane n = s.lanes[n] := by simp [State.lane, inside]
  simpa [lane] using h n inside

/-- The lanes 0 to 3 that `pick` picks by their state are HALTED. -/
theorem State.lanesHalted_picked (pick : LaneState → Bool) (cause : Nat → HaltCause) (s : State) :
    s.lanesHalted (fun n => decide (n < 4) && pick (s.lane n).state) cause =
      (withoutWaiting (fun n => pick (s.lane n).state) s).setLanes (s.lanes.mapIdx fun n l =>
        if n < 4 ∧ pick l.state = true then
          { l with state := .halted, halt := some (cause n), pendingPost := none }
        else l) := by
  unfold State.lanesHalted
  rw [withoutWaiting_congr (which' := fun n => pick (s.lane n).state) fun n h => by simp [h]]
  refine congrArg (fun ls => (withoutWaiting (fun n => pick (s.lane n).state) s).setLanes ls)
    (s.mapIdx_lanes_congr _ _ fun n _ => ?_)
  by_cases h : n < 4 <;> simp [h]

theorem State.overrunLanes_eq (poster : Option Nat) (c : CauseSet) (s : State) :
    s.overrunLanes poster c = overrunHalts poster c s := by
  unfold State.overrunLanes
  rw [State.foldl_laneNumbers_halts LaneState.runs (fun n => if poster = some n then .causes c else .overrun)
    (fun _ => []) s _ fun t n _ _ _ => ?step]
  case step =>
    have quiet (u : State) : reports u [] = u := congrArg u.setOutbound (List.append_nil _)
    rw [quiet]
  have quiet (u : State) (ns : List Nat) : reports u (ns.flatMap fun _ => []) = u := by
    rw [List.flatMap_eq_nil_iff.mpr fun _ _ => rfl]
    exact congrArg u.setOutbound (List.append_nil _)
  rw [quiet, State.lanesHalted_picked]
  rfl

/-- A violation reaches the record as R46, R48 and R50 have it. -/
theorem State.recordViolation_eq (poster : Option Nat) (a : Access) (c : CauseSet) (s : State) :
    s.recordViolation poster a c = violated poster a c s := by
  obtain ⟨empty, held, overrun⟩ := FaultRecord.state_cases s.fault
  unfold State.recordViolation violated
  cases state : s.fault.state
  · simp only [if_pos (empty.mp state)]
    rfl
  · obtain ⟨captured, calm⟩ := held.mp state
    simp only [if_neg captured, if_pos calm]
    exact State.overrunLanes_eq poster c _
  · obtain ⟨captured, over'⟩ := overrun.mp state
    simp [captured, over']

theorem State.overruns_iff (s : State) : s.overruns = true ↔ FaultHeld s := by
  unfold State.overruns FaultHeld
  rw [decide_eq_true_iff]
  exact (FaultRecord.state_cases s.fault).2.1

theorem State.haltLane_noted (s : State) (n : Nat) (c : HaltCause) (inside : n < s.lanes.length) :
    s.haltLane true n c =
      reports (s.haltSilently true n c) [.notice (.laneHalted n (s.lane n).descriptor c (s.lane n).completed)] := by
  unfold State.haltLane
  dsimp only
  rw [State.haltSilently_lane true n c s inside]
  rfl

theorem State.unloadLanes_eq (s : State) : s.unloadLanes = unloadHalts s := by
  unfold State.unloadLanes
  rw [State.foldl_laneNumbers_halts (fun l => decide (l = .active)) (fun _ => .unload)
    (fun n => [.notice (.laneHalted n (s.lane n).descriptor .unload (s.lane n).completed)]) s _
    fun t n _ lane _ => ?step]
  case step =>
    by_cases active : (t.lane n).state = .active
    · simp only [active, if_true, decide_true]
      rw [t.haltLane_noted n .unload (State.lt_of_active active), lane]
    · simp [active]
  have halted := s.lanesHalted_picked (fun l => decide (l = .active)) fun _ => .unload
  simp only [decide_eq_true_eq] at halted
  rw [halted, ← List.map_eq_flatMap]
  rfl

end Sys2Proof.Machine

section

open Sys2Proof Sys2Proof.Machine Sys2Proof.Safety

/-- Settles O22. -/
theorem accessesAndFootprintsAreCheckedByTheRules : Obligations.AccessesAndFootprintsAreCheckedByTheRules := by
  unfold Obligations.AccessesAndFootprintsAreCheckedByTheRules
  refine ⟨fun s a size => s.causes_checked a size, fun e a c _ => offendingOffset_checked e a c,
    fun f e a => ⟨rfl, fun _ _ _ => beyondUsers_some f e a⟩, fun d cls n => ⟨?_, fun _ => d.footprint_eq cls n⟩⟩
  exact d.startable_iff

/-- Settles O23. -/
theorem edgeEventsReachTheRecord : Obligations.EdgeEventsReachTheRecord := by
  unfold Obligations.EdgeEventsReachTheRecord
  intro s a e touched access
  obtain ⟨no, yes⟩ := s.edgeCheck_cases a
  refine ⟨no, fun touch empty => ?_, fun touch held calm first => ?_, fun touch held later => ?_⟩
  · exact (yes touch).trans (s.recordEdge_empty a empty)
  · refine (yes touch).trans ((s.recordEdge_held a held calm).trans (if_neg ?_))
    simp [first]
  · refine (yes touch).trans ?_
    cases overrun : s.fault.overrun
    · exact (s.recordEdge_held a held overrun).trans (if_pos (later.resolve_left (by simp [overrun])))
    · exact s.recordEdge_overrun a held overrun

end

end

section
/-! The orders that become work items (O17 to O20). -/
set_option Elab.async false

namespace Sys2Proof.Machine
open Sys2Proof.Safety

theorem State.tagInUse_iff (s : State) (tag : Byte) : s.tagInUse tag = true ↔ TagHeld s tag := by
  simp [State.tagInUse, TagHeld]

theorem driveRefusal_ready (d : DriveState) : driveRefusal d = none ↔ d = .ready := by cases d <;> decide

theorem driveRefusal_noMedia (d : DriveState) (ready : d ≠ .ready) (unloading : d ≠ .unloading) :
    driveRefusal d = some .noMedia := by
  cases d
  case ready => exact absurd rfl ready
  case unloading => exact absurd rfl unloading
  all_goals rfl

theorem State.protectedTab_iff (s : State) : s.protectedTab = true ↔ s.drive.tab = some true := by
  simp [State.protectedTab]

theorem ItemKind.writes_iff (k : ItemKind) : k.writes = true ↔ k ≠ .fetch := by cases k <;> decide

theorem ItemKind.counted_eq (k : ItemKind) : k.counted = namesExtent k := by cases k <;> rfl

/-- The early checks of an order whose drive is READY (R79 steps 3 to 6). -/
theorem State.earlyRefusal_ready (s : State) (k : ItemKind) (tag : Byte) (p : List Byte)
    (ready : s.drive.state = .ready) :
    s.earlyRefusal k tag (orderCount k p) =
      if s.tagInUse tag = true then some .tagBusy
      else if ¬ (1 ≤ orderCount k p ∧ orderCount k p ≤ 256) then some .badCount
      else if k = .blank ∧ s.drive.facts.map Facts.kind = some .w then some .mediaKind
      else if k.writes = true ∧ s.protectedTab = true then some .writeProtected
      else none := by
  have counted : (k.counted = true ∧ ¬ (1 ≤ orderCount k p ∧ orderCount k p ≤ 256)) ↔
      ¬ (1 ≤ orderCount k p ∧ orderCount k p ≤ 256) := by
    rw [ItemKind.counted_eq]
    cases named : namesExtent k
    · simp [orderCount, named]
    · simp
  unfold State.earlyRefusal
  rw [(driveRefusal_ready _).mpr ready]
  simp only [Config.pieceBlocks, counted]

theorem State.earlyRefusal_passes {s : State} {k : ItemKind} {tag : Byte} {p : List Byte}
    (early : EarlyPasses s k tag p) : s.earlyRefusal k tag (orderCount k p) = none := by
  obtain ⟨ready, free, low, high, kind, tab⟩ := early
  rw [s.earlyRefusal_ready k tag p ready, if_neg (mt (s.tagInUse_iff tag).mp free), if_neg (by simp [low, high]),
    if_neg fun ⟨blank, w⟩ => kind blank w,
    if_neg fun ⟨writes, tabbed⟩ => tab (k.writes_iff.mp writes) (s.protectedTab_iff.mp tabbed)]

/-- An order past the link and its early checks (R79 steps 7 to 9). -/
def State.acceptOrder (k : ItemKind) (c tag : Byte) (p : List Byte) (s : State) : State :=
  if namesExtent k = true then
    if (s.causes (accessOf k c tag p)).any = true then
      s.refuseViolation (mediaOrderKind k) tag (accessOf k c tag p) (s.causes (accessOf k c tag p))
    else if beyondUsers s.drive.facts (s.entry (field p 0 1)) (accessOf k c tag p) = true then
      (s.edgeCheck (accessOf k c tag p)).refuse (mediaOrderKind k) tag .beyondMedia
    else (s.edgeCheck (accessOf k c tag p)).enqueue (mediaOrderKind k) tag k (some (field p 0 1))
      (some (field p 1 2)) (orderCount k p)
  else s.enqueue (mediaOrderKind k) tag k none none 1

theorem State.edgeCheck_entry (a : Access) (s : State) (n : Nat) : (s.edgeCheck a).entry n = s.entry n := by
  obtain ⟨-, -, extents, -⟩ := s.edgeCheck_same a
  simp only [State.entry, extents rfl]

theorem State.edgeCheck_drive (a : Access) (s : State) : (s.edgeCheck a).drive = s.drive :=
  (s.edgeCheck_same a).1 rfl

/-- A media order that passes the link tests. -/
theorem exec_mediaOrder (k : ItemKind) (c tag : Byte) (p : List Byte) (s : State) (free : s.held = false)
    (link : LinkPasses k c p) :
    exec (mediaOrder k c tag p) s = .next (match s.earlyRefusal k tag (orderCount k p) with
      | some code => reports (taken s) [.answer (mediaOrderKind k) tag code .none]
      | none => (taken s).acceptOrder k c tag p) := by
  have access (akind : AccessKind) (named : namesExtent k = true) (same : accessKind k = akind) :
      (taken s).accessOrder (mediaOrderKind k) c tag k akind p =
        match s.earlyRefusal k tag (orderCount k p) with
        | some code => reports (taken s) [.answer (mediaOrderKind k) tag code .none]
        | none => (taken s).acceptOrder k c tag p := by
    have five : p.length = 5 := by simpa [LinkPasses, named] using link
    have count : orderCount k p = field p 3 2 := by simp [orderCount, named]
    have acc : orderAccess akind c tag (field p 0 1) (field p 1 2) (field p 3 2) = accessOf k c tag p := by
      simp only [accessOf, same]
      rfl
    refine Eq.trans (State.handOver_passes _ _ _ _ _ _ _ (decide_eq_true five) nofun) ?_
    unfold State.acceptAccess State.acceptOrder
    rw [if_pos named, count, acc]
    simp only [State.edgeCheck_entry, State.edgeCheck_drive]
    rfl
  have control (named : namesExtent k = false) (owner : State → State)
      (own : owner = State.acceptControl (mediaOrderKind k) tag k) :
      (taken s).handOver (mediaOrderKind k) c tag (decide (p.length = 0)) true owner =
        match s.earlyRefusal k tag (orderCount k p) with
        | some code => reports (taken s) [.answer (mediaOrderKind k) tag code .none]
        | none => (taken s).acceptOrder k c tag p := by
    have both : p = [] ∧ c.getLsbD 0 = true := by simpa [LinkPasses, named] using link
    obtain ⟨rfl, service⟩ := both
    have count : orderCount k [] = 1 := by simp [orderCount, named]
    refine Eq.trans (State.handOver_passes _ _ _ _ _ _ _ rfl fun _ => service) ?_
    subst own
    unfold State.acceptControl State.acceptOrder
    rw [if_neg (by simp [named]), count]
    rfl
  cases k with
  | fetch => exact (s.takeFrame_free _ free).trans (congrArg Host.Outcome.next (access _ rfl rfl))
  | place => exact (s.takeFrame_free _ free).trans (congrArg Host.Outcome.next (access _ rfl rfl))
  | blank => exact (s.takeFrame_free _ free).trans (congrArg Host.Outcome.next (access _ rfl rfl))
  | store => exact (s.takeFrame_free _ free).trans (congrArg Host.Outcome.next (control rfl _ rfl))
  | flush => exact (s.takeFrame_free _ free).trans (congrArg Host.Outcome.next (control rfl _ rfl))

theorem exec_mediaOrder_refused {k : ItemKind} {c tag : Byte} {p : List Byte} {s : State} {code : Code}
    (free : s.held = false) (link : LinkPasses k c p)
    (refused : s.earlyRefusal k tag (orderCount k p) = some code) :
    exec (mediaOrder k c tag p) s = .next (reports (taken s) [.answer (mediaOrderKind k) tag code .none]) := by
  rw [exec_mediaOrder k c tag p s free link, refused]

theorem exec_mediaOrder_accepted {k : ItemKind} {c tag : Byte} {p : List Byte} {s : State}
    (free : s.held = false) (link : LinkPasses k c p) (early : EarlyPasses s k tag p) :
    exec (mediaOrder k c tag p) s = .next ((taken s).acceptOrder k c tag p) := by
  rw [exec_mediaOrder k c tag p s free link, State.earlyRefusal_passes early]

theorem State.enqueue_full (okind tag : Byte) (k : ItemKind) (extent first : Option Nat) (count : Nat) (s : State)
    (full : 8 ≤ s.queue.length ∨ ∃ n < 4, (s.lane n).pendingPost ≠ none) :
    s.enqueue okind tag k extent first count = reports s [.answer okind tag .queueFull .none] := by
  unfold State.enqueue
  rw [if_neg, State.refuse_eq]
  rintro ⟨place, calm⟩
  rcases full with full | pending
  · exact absurd (s.placeFree_iff.mp place) (by omega)
  · rw [s.anyPending_iff.mpr pending] at calm
    exact Bool.noConfusion calm

theorem State.enqueue_free (okind tag : Byte) (k : ItemKind) (extent first : Option Nat) (count : Nat) (s : State)
    (place : s.queue.length < 8) (calm : ∀ n < 4, (s.lane n).pendingPost = none) :
    s.enqueue okind tag k extent first count =
      (joins (s.newItem (.tag tag) k extent first count 0) s).settle := by
  unfold State.enqueue
  refine if_pos ⟨s.placeFree_iff.mpr place, ?_⟩
  rw [← Bool.not_eq_true, s.anyPending_iff]
  rintro ⟨n, h, pending⟩
  exact pending (calm n h)

theorem State.edgeCheck_queue (a : Access) (s : State) :
    (s.edgeCheck a).queue = s.queue ∧ (s.edgeCheck a).nextId = s.nextId := by
  obtain ⟨-, -, -, -, -, queue, -⟩ := s.edgeCheck_same a
  exact queue rfl

theorem State.edgeCheck_profile (a : Access) (s : State) : (s.edgeCheck a).profile = s.profile :=
  (s.edgeCheck_same a).2.1 rfl

theorem State.acceptOrder_violating {k : ItemKind} {c tag : Byte} {p : List Byte} {s : State}
    (named : namesExtent k = true) (violates : s.causes (accessOf k c tag p) ≠ CauseSet.empty) :
    s.acceptOrder k c tag p = s.refuseViolation (mediaOrderKind k) tag (accessOf k c tag p)
      (s.causes (accessOf k c tag p)) := by
  rw [State.acceptOrder, if_pos named, if_pos ((CauseSet.any_iff _).mpr violates)]

theorem State.acceptOrder_clean {k : ItemKind} {c tag : Byte} {p : List Byte} {s : State}
    (named : namesExtent k = true) (clean : s.causes (accessOf k c tag p) = CauseSet.empty) :
    s.acceptOrder k c tag p =
      if beyondUsers s.drive.facts (s.entry (field p 0 1)) (accessOf k c tag p) = true then
        reports (s.edgeCheck (accessOf k c tag p)) [.answer (mediaOrderKind k) tag .beyondMedia .none]
      else (s.edgeCheck (accessOf k c tag p)).enqueue (mediaOrderKind k) tag k (some (field p 0 1))
        (some (field p 1 2)) (orderCount k p) := by
  rw [State.acceptOrder, if_pos named, if_neg (mt (CauseSet.any_iff _).mp (not_not_intro clean)), State.refuse_eq]

theorem State.acceptOrder_control {k : ItemKind} {c tag : Byte} {p : List Byte} {s : State}
    (named : namesExtent k = false) :
    s.acceptOrder k c tag p = s.enqueue (mediaOrderKind k) tag k none none 1 := by
  rw [State.acceptOrder, if_neg (by simp [named])]

/-! ### A violating order -/

theorem State.refuseViolation_held (okind tag : Byte) (a : Access) (c : CauseSet) (s : State) (held : FaultHeld s) :
    s.refuseViolation okind tag a c =
      (reports (violated none a c s) [.answer okind tag .violation (.causes c)]).settle := by
  unfold State.refuseViolation
  dsimp only
  rw [if_pos (s.overruns_iff.mpr held), State.recordViolation_eq]
  rfl

theorem State.refuseViolation_calm (okind tag : Byte) (a : Access) (c : CauseSet) (s : State) (calm : ¬ FaultHeld s) :
    s.refuseViolation okind tag a c = reports (violated none a c s) [.answer okind tag .violation (.causes c)] := by
  unfold State.refuseViolation
  dsimp only
  rw [if_neg (mt s.overruns_iff.mp calm), State.recordViolation_eq]
  rfl

theorem reports_reports (s : State) (fs gs : List Frame) : reports (reports s fs) gs = reports s (fs ++ gs) :=
  congrArg s.setOutbound (List.append_assoc _ _ _)

theorem violated_empty (poster : Option Nat) (a : Access) (c : CauseSet) (s : State)
    (empty : s.fault.captured = none) :
    let access := a.captured (offendingOffset (s.entry a.extent) a c)
    let r : FaultRecord := ⟨c, false, false, false, some access⟩
    violated poster a c s = reports (s.setFault r) [.notice (.fault .first r c access)] := if_pos empty

theorem violated_overrun (poster : Option Nat) (a : Access) (c : CauseSet) (s : State)
    (held : s.fault.captured ≠ none) (overrun : s.fault.overrun = true) : violated poster a c s = s :=
  (if_neg held).trans (if_neg (by simp [overrun]))

theorem violated_held (poster : Option Nat) (a : Access) (c : CauseSet) (s : State) (held : FaultHeld s) :
    let access := a.captured (offendingOffset (s.entry a.extent) a c)
    let r : FaultRecord := { s.fault with overrun := true }
    violated poster a c s =
      overrunHalts poster c (reports (s.setFault r) [.notice (.fault .overrun r c access)]) :=
  (if_neg held.1).trans (if_pos held.2)

theorem overrunHalts_lane (poster : Option Nat) (c : CauseSet) (s : State) (n : Nat) (h : n < 4) :
    (overrunHalts poster c s).lane n = if (s.lane n).state.runs = true then
      { s.lane n with
        state := .halted, halt := some (if poster = some n then .causes c else .overrun), pendingPost := none }
      else s.lane n := by
  have halted : overrunHalts poster c s = s.lanesHalted (fun n => decide (n < 4) && (s.lane n).state.runs)
      fun n => if poster = some n then .causes c else .overrun := (State.lanesHalted_picked _ _ s).symm
  rw [halted, State.lanesHalted_lane]
  by_cases runs : (s.lane n).state.runs = true
  · have inside : n < s.lanes.length := by
      by_contra outside
      simp [State.lane, outside, Lane.reset, LaneState.runs] at runs
    simp [h, runs, inside]
  · simp [runs]

theorem placesTaken_of_no_post (s : State) (none : ∀ n < 4, (s.lane n).pendingPost = none) : placesTaken s = s :=
  placesTaken_none s ((placesGiven_eq_nil_iff s).mpr fun _ => none)

theorem walked_lanes {s t : State} (h : Walked s t) : t.lanes = s.lanes := by
  have same := congrArg State.lanes h.1
  simp only [State.setPort_lanes, State.setDataTimer_lanes, State.setHead_lanes] at same
  obtain ⟨-, -, -, -, -, -, -, -, -, lanes, -⟩ := s.walk_same
  exact same.trans (lanes rfl)

theorem walked_fault {s t : State} (h : Walked s t) : t.fault = s.fault :=
  (walked_keeps h).2.2.2.2.2.2.1 rfl

end Sys2Proof.Machine

section

open Sys2Proof Sys2Proof.Machine Sys2Proof.Safety

/-- Settles O17. -/
theorem earlyChecksRefuseInOrder : Obligations.EarlyChecksRefuseInOrder := by
  unfold Obligations.EarlyChecksRefuseInOrder
  intro k c tag p s free link refused
  have busy := s.tagInUse_iff tag
  refine ⟨fun unloading => ?_, fun unready loaded => ?_, fun ready held => ?_, fun ready idle bad => ?_,
    fun ready idle low high blank w => ?_, fun ready idle low high kind writes tab => ?_⟩ <;>
    refine exec_mediaOrder_refused free link ?_
  · rw [State.earlyRefusal, unloading]
    rfl
  · rw [State.earlyRefusal, driveRefusal_noMedia _ unready loaded]
  · rw [s.earlyRefusal_ready k tag p ready, if_pos (busy.mpr held)]
  · rw [s.earlyRefusal_ready k tag p ready, if_neg (mt busy.mp idle), if_pos bad]
  · rw [s.earlyRefusal_ready k tag p ready, if_neg (mt busy.mp idle), if_neg (by simp [low, high]),
      if_pos ⟨blank, w⟩]
  · rw [s.earlyRefusal_ready k tag p ready, if_neg (mt busy.mp idle), if_neg (by simp [low, high]),
      if_neg fun ⟨blank, w⟩ => kind blank w, if_pos ⟨k.writes_iff.mpr writes, s.protectedTab_iff.mpr tab⟩]

/-- Settles O19. -/
theorem laterChecksRefuseAndTheEdgeEventStands : Obligations.LaterChecksRefuseAndTheEdgeEventStands := by
  unfold Obligations.LaterChecksRefuseAndTheEdgeEventStands
  intro k c tag p s free link early a beyond full refused
  have run := exec_mediaOrder_accepted free link early
  refine ⟨fun named clean out => ?_, fun named clean inside full => ?_, fun named full => ?_⟩ <;>
    refine run.trans (congrArg Host.Outcome.next ?_)
  · exact (State.acceptOrder_clean (s := taken s) named clean).trans (if_pos out)
  · refine (State.acceptOrder_clean (s := taken s) named clean).trans ((if_neg (Bool.eq_false_iff.mp inside)).trans ?_)
    refine State.enqueue_full _ _ _ _ _ _ _ ?_
    rw [((taken s).edgeCheck_queue a).1]
    simp only [State.edgeCheck_lane]
    exact full
  · exact (State.acceptOrder_control named).trans (State.enqueue_full _ _ _ _ _ _ _ full)

/-- Settles O20. -/
theorem acceptedOrdersJoinTheTail : Obligations.AcceptedOrdersJoinTheTail := by
  unfold Obligations.AcceptedOrdersJoinTheTail
  intro k c tag p s free link early a checks place calm edged it
  refine ⟨(joins it edged).settle, (exec_mediaOrder_accepted free link early).trans (congrArg Host.Outcome.next ?_),
    State.settle_settled _⟩
  cases named : namesExtent k
  · have same : edged = taken s := if_neg (by simp [named])
    have item : (taken s).newItem (.tag tag) k none none 1 0 = it := by
      simp only [it, named, orderCount]
      rfl
    rw [State.acceptOrder_control named, State.enqueue_free _ _ _ _ _ _ (taken s) place calm, item, same]
  · have same : edged = (taken s).edgeCheck a := if_pos named
    obtain ⟨clean, inside⟩ := checks named
    have item : ((taken s).edgeCheck a).newItem (.tag tag) k (some (field p 0 1)) (some (field p 1 2))
        (orderCount k p) 0 = it := by
      simp only [State.newItem, (taken s).edgeCheck_profile a, ((taken s).edgeCheck_queue a).2, it, named]
      rfl
    refine (State.acceptOrder_clean (s := taken s) named clean).trans ((if_neg (Bool.eq_false_iff.mp inside)).trans ?_)
    rw [State.enqueue_free, same]
    · exact congrArg (fun x => (joins x ((taken s).edgeCheck a)).settle) item
    · rw [((taken s).edgeCheck_queue a).1]
      exact place
    · simp only [State.edgeCheck_lane]
      exact calm

/-- Settles O18: on a HELD record the lanes that wait for a place are halted, so that no place is given. -/
theorem violatingOrdersAreRefusedAndRecorded : Obligations.ViolatingOrdersAreRefusedAndRecorded := by
  unfold Obligations.ViolatingOrdersAreRefusedAndRecorded
  intro k c tag p s free named link early a causes violates access refusal
  have run : exec (mediaOrder k c tag p) s =
      .next ((taken s).refuseViolation (mediaOrderKind k) tag a causes) :=
    (exec_mediaOrder_accepted free link early).trans
      (congrArg Host.Outcome.next (State.acceptOrder_violating named violates))
  rw [run]
  refine ⟨fun empty => ?_, fun held overrun => ?_, fun held waits size => ?_⟩
  · rw [State.refuseViolation_calm _ _ _ _ (taken s) fun h => h.1 empty, violated_empty none a causes (taken s) empty]
    exact congrArg Host.Outcome.next (reports_reports _ _ _)
  · have calm : ¬ FaultHeld (taken s) := fun h => Bool.noConfusion (h.2.symm.trans overrun)
    rw [State.refuseViolation_calm _ _ _ _ (taken s) calm,
      violated_overrun none a causes (taken s) held overrun]
  · rw [State.refuseViolation_held _ _ _ _ (taken s) held, violated_held none a causes (taken s) held]
    intro r halted
    have lane (n : Nat) (h : n < 4) : (reports halted [refusal]).lane n = if (s.lane n).state.runs = true then
        { s.lane n with state := .halted, halt := some .overrun, pendingPost := none } else s.lane n :=
      overrunHalts_lane none causes _ n h
    have none : placesTaken (reports halted [refusal]) = reports halted [refusal] :=
      placesTaken_of_no_post _ fun n h => by
        rw [lane n h]
        split
        · rfl
        · by_contra post
          have active := waits n h post
          simp [active, LaneState.runs] at *
    have settled := (reports halted [refusal]).settle_settled
    have walked : Walked (reports halted [refusal]) (reports halted [refusal]).settle := by
      have s := settled
      unfold Settled at s
      rwa [none] at s
    have lanes := walked_lanes walked
    have kept (n : Nat) : (reports halted [refusal]).settle.lane n = (reports halted [refusal]).lane n := by
      simp only [State.lane, lanes]
    refine ⟨(reports halted [refusal]).settle, rfl, settled, walked_fault walked, fun n h runs => ?_,
      fun n h still => ?_, (walked_keeps walked).1⟩
    · exact (kept n).trans ((lane n h).trans (if_pos ((LaneState.runs_iff _).mpr runs)))
    · refine (kept n).trans ((lane n h).trans (if_neg ?_))
      rcases still with still | still <;> simp [still, LaneState.runs]

end

end

section
/-! The walk of the buffer over the queue (O21): what `walkItems` gives is what the shares say. -/
set_option Elab.async false

namespace Sys2Proof.Machine
open Sys2Proof.Safety

theorem wantedSlots_eq (it : WorkItem) : wantedSlots it = it.slotless := by
  unfold wantedSlots WorkItem.slotless
  cases it.kind <;> cases it.ended <;> rfl

theorem heldBehind_giveSlots_front (it : WorkItem) (sl : List Slot) :
    ∀ k n, heldBehind it.id (giveSlots it k n sl) = heldBehind it.id sl := by
  induction sl with
  | nil => intro k n; rfl
  | cons x xs ih =>
    intro k n
    cases n with
    | zero => rw [giveSlots_zero]
    | succ n =>
      unfold giveSlots
      by_cases free : x.state = .free
      · rw [if_pos free, heldBehind_cons, heldBehind_cons, ih]
        simp [free, Slot.give]
      · rw [if_neg free, heldBehind_cons, heldBehind_cons, ih]

theorem slotsGiven_used (more : List (WorkItem × Nat)) (x : Slot) (xs : List Slot) (used : x.state ≠ .free) :
    slotsGiven more (x :: xs) = x :: slotsGiven more xs := by
  cases more with
  | nil => cases xs <;> rfl
  | cons b more =>
    obtain ⟨it, k⟩ := b
    exact if_neg used

theorem slotsGiven_none (sl : List Slot) : slotsGiven [] sl = sl := by cases sl <;> rfl

theorem Slot.give_used (it : WorkItem) (k : Nat) (x : Slot) : (x.give it k).state ≠ .free := by
  simp only [Slot.give]
  split <;> simp

theorem slotsGiven_item (it : WorkItem) (more : List (WorkItem × Nat)) (sl : List Slot) :
    ∀ k n, slotsGiven ((List.range' k n).map (fun k => (it, k)) ++ more) sl =
      slotsGiven more (giveSlots it k n sl) := by
  induction sl with
  | nil => intro k n; rfl
  | cons x xs ih =>
    intro k n
    cases n with
    | zero => rw [giveSlots_zero]; rfl
    | succ n =>
      unfold giveSlots
      by_cases free : x.state = .free
      · rw [if_pos free, slotsGiven_used _ _ _ (x.give_used it k), ← ih (k + 1) n]
        exact if_pos free
      · rw [if_neg free, slotsGiven_used _ _ _ free, slotsGiven_used _ _ _ free, ← ih k (n + 1)]

/-- The shares of a queue, each with its item. -/
def sharesOf (frontId : Nat) (q : List WorkItem) (sl : List Slot) : List (WorkItem × Nat) :=
  q.zip (walkShares frontId (freeCount sl) (heldBehind frontId sl) q)

/-- The CREDITs that shares call for. -/
def creditsOf (shares : List (WorkItem × Nat)) : List Frame :=
  (shares.filter fun x => decide (x.1.kind = .place) && decide (0 < x.2)).map fun x => Frame.credit x.1.route x.2

/-- The blocks that shares give slots to. -/
def blocksOf (shares : List (WorkItem × Nat)) : List (WorkItem × Nat) :=
  shares.flatMap fun x => (List.range' x.1.given x.2).map fun k => (x.1, k)

theorem walkGives_eq (frontId : Nat) (it : WorkItem) (sl : List Slot) :
    walkGives frontId it sl = min (wantedSlots it)
      (if it.id = frontId then freeCount sl else min (freeCount sl) (24 - heldBehind frontId sl)) := by
  rw [wantedSlots_eq]
  rfl

theorem walkGives_le_free (frontId : Nat) (it : WorkItem) (sl : List Slot) :
    walkGives frontId it sl ≤ freeCount sl := by
  rw [walkGives_eq]
  split <;> omega

/-- Slots held behind the front after an item has been given its share. -/
theorem heldBehind_given (frontId : Nat) (it : WorkItem) (sl : List Slot) :
    heldBehind frontId (giveSlots it it.given (walkGives frontId it sl) sl) =
      if it.id = frontId then heldBehind frontId sl else heldBehind frontId sl + walkGives frontId it sl := by
  split
  · next front => rw [← front, heldBehind_giveSlots_front]
  · next behind =>
    exact (giveSlots_counts frontId it it.given _ sl (walkGives_le_free frontId it sl)).2 behind

theorem sharesOf_cons (frontId : Nat) (it : WorkItem) (rest : List WorkItem) (sl : List Slot) :
    sharesOf frontId (it :: rest) sl = (it, walkGives frontId it sl) ::
      if walkGives frontId it sl < it.slotless then rest.map fun x => (x, 0)
      else sharesOf frontId rest (giveSlots it it.given (walkGives frontId it sl) sl) := by
  have free := (giveSlots_counts frontId it it.given _ sl (walkGives_le_free frontId it sl)).1
  have left : freeCount (giveSlots it it.given (walkGives frontId it sl) sl) =
      freeCount sl - walkGives frontId it sl := by omega
  unfold sharesOf
  have stopped : rest.zip (rest.map fun _ => 0) = rest.map fun x => (x, 0) := by
    induction rest with
    | nil => rfl
    | cons x xs ih => rw [List.map_cons, List.map_cons, List.zip_cons_cons, ih]
  rw [left, heldBehind_given, walkShares]
  rw [← walkGives_eq, wantedSlots_eq, List.zip_cons_cons]
  split
  · rw [stopped]
  · rfl

theorem sharesOf_stopped (rest : List WorkItem) :
    ((rest.map fun x => (x, 0)).map fun x : WorkItem × Nat => { x.1 with given := x.1.given + x.2 }) = rest ∧
      blocksOf (rest.map fun x => (x, 0)) = [] ∧ creditsOf (rest.map fun x => (x, 0)) = [] := by
  refine ⟨?_, ?_, ?_⟩
  · rw [List.map_map]
    exact List.map_id _
  · simp [blocksOf]
  · simp [creditsOf]

theorem walkItems_eq (frontId : Nat) (q : List WorkItem) :
    ∀ sl, walkItems frontId q sl =
      ((sharesOf frontId q sl).map (fun x => { x.1 with given := x.1.given + x.2 }),
        slotsGiven (blocksOf (sharesOf frontId q sl)) sl, creditsOf (sharesOf frontId q sl)) := by
  induction q with
  | nil => intro sl; simp [walkItems, sharesOf, blocksOf, creditsOf, slotsGiven_none]
  | cons it rest ih =>
    intro sl
    rw [sharesOf_cons]
    have credits (more : List (WorkItem × Nat)) : creditsOf ((it, walkGives frontId it sl) :: more) =
        (if it.kind = .place ∧ 0 < walkGives frontId it sl then
          [Frame.credit it.route (walkGives frontId it sl)] else []) ++ creditsOf more := by
      unfold creditsOf
      by_cases given : it.kind = .place ∧ 0 < walkGives frontId it sl
      · simp [given]
      · rw [List.filter_cons_of_neg (by simpa using given), if_neg given, List.nil_append]
    have blocks (more : List (WorkItem × Nat)) : slotsGiven (blocksOf ((it, walkGives frontId it sl) :: more)) sl =
        slotsGiven (blocksOf more) (giveSlots it it.given (walkGives frontId it sl) sl) :=
      slotsGiven_item it _ sl _ _
    rw [walkItems, credits, blocks]
    dsimp only
    split
    · obtain ⟨queue, none, quiet⟩ := sharesOf_stopped rest
      rw [List.map_cons, queue, none, quiet, slotsGiven_none, List.append_nil]
    · rw [ih]
      rfl

theorem walkItems_keeps_reserve (frontId : Nat) (q : List WorkItem) :
    ∀ sl, heldBehind frontId sl ≤ 24 → heldBehind frontId (walkItems frontId q sl).2.1 ≤ 24 := by
  induction q with
  | nil => exact fun _ h => h
  | cons it rest ih =>
    intro sl h
    have after : heldBehind frontId (giveSlots it it.given (walkGives frontId it sl) sl) ≤ 24 := by
      rw [heldBehind_given]
      split
      · exact h
      · next behind =>
        have gives := walkGives_eq frontId it sl
        rw [if_neg behind] at gives
        omega
    rw [walkItems]
    dsimp only
    split
    · exact after
    · exact ih _ after

theorem freeCount_all (sl : List Slot) (free : ∀ x ∈ sl, x.state = .free) : freeCount sl = sl.length := by
  unfold freeCount
  rw [List.filter_eq_self.mpr fun x hx => decide_eq_true (free x hx)]

theorem sharesOf_lone (front : WorkItem) (sl : List Slot) (place : front.kind = .place) (new : front.ended = none)
    (given : front.given = 0) (size : sl.length = 32) (free : ∀ x ∈ sl, x.state = .free) :
    sharesOf front.id [front] sl = [(front, min front.count 32)] := by
  have gives : walkGives front.id front sl = min front.count 32 := by
    rw [walkGives_eq, if_pos rfl, freeCount_all sl free, size, wantedSlots, if_pos ⟨.inr place, new⟩, given,
      Nat.sub_zero]
  rw [sharesOf_cons, gives]
  split <;> rfl

end Sys2Proof.Machine

section

open Sys2Proof Sys2Proof.Machine Sys2Proof.Safety

/-- Settles O21. -/
theorem theWalkKeepsTheFrontReserve : Obligations.TheWalkKeepsTheFrontReserve := by
  unfold Obligations.TheWalkKeepsTheFrontReserve
  intro s front rest queue
  obtain ⟨bare, -, used⟩ := s.walk_spec
  have walk := s.walk_of_cons front rest queue
  rw [← queue] at walk
  have slots : s.walk.slots = (walkItems front.id s.queue s.slots).2.1 := congrArg State.slots walk
  have outbound : s.walk.outbound = s.outbound ++ (walkItems front.id s.queue s.slots).2.2 :=
    congrArg State.outbound walk
  refine ⟨bare, s.walk_slots_length, used, fun reserve => ?_, ⟨?_, ?_, ?_⟩, ?_⟩
  · rw [slots]
    exact walkItems_keeps_reserve _ _ _ reserve
  · have items : s.walk.queue = (walkItems front.id s.queue s.slots).1 := congrArg State.queue walk
    rw [items, walkItems_eq]
    rfl
  · rw [slots, walkItems_eq]
    rfl
  · rw [outbound, walkItems_eq]
    rfl
  · intro lone place new given some size free
    rw [outbound, walkItems_eq, queue, lone, sharesOf_lone front s.slots place new given size free]
    have credit : 0 < min front.count 32 := by omega
    simp [creditsOf, place, credit]

end

end

section
/-! Resolution and the replacement list (O29 to O31). -/
set_option Elab.async false

namespace Sys2Proof.Machine
open Sys2Proof.Safety

/-! ### Zones -/

theorem zonesTotal_cons (z : Zone) (zs : List Zone) : zonesTotal (z :: zs) = z.tracks * z.spt + zonesTotal zs := rfl

theorem zonesTile_first_le {first : Nat} {zs : List Zone} (tile : ZonesTile first zs) {z : Zone} (h : z ∈ zs) :
    first ≤ z.first := by
  induction zs generalizing first with
  | nil => nomatch h
  | cons y ys ih =>
    obtain ⟨start, -, -, rest⟩ := tile
    rcases List.mem_cons.mp h with rfl | h
    · exact start.ge
    · exact Nat.le_trans (start ▸ Nat.le_add_right _ _) (ih rest h)

/-- A PSA below the top of the zones is located in the zone that contains it. -/
theorem locateFrom_found (q : Nat) (zs : List Zone) : ∀ zone start, start ≤ q → q < start + zonesTotal zs →
    ∃ l i z, locateFrom zone start q zs = some l ∧ l.zone = zone + i ∧ zs[i]? = some z ∧
      start + zonesTotal (zs.take i) ≤ q ∧ q < start + zonesTotal (zs.take i) + z.tracks * z.spt ∧
      l.track = z.first + (q - (start + zonesTotal (zs.take i))) / z.spt ∧
      l.sector = (q - (start + zonesTotal (zs.take i))) % z.spt := by
  induction zs with
  | nil => intro zone start low high; exact absurd high (Nat.not_lt.mpr low)
  | cons z zs ih =>
    intro zone start low high
    unfold locateFrom
    by_cases inside : start ≤ q ∧ q < start + z.sectors
    · rw [if_pos inside]
      exact ⟨_, 0, z, rfl, rfl, rfl, inside.1, inside.2, rfl, rfl⟩
    · rw [if_neg inside]
      have past : start + z.sectors ≤ q := Nat.le_of_not_lt fun h => inside ⟨low, h⟩
      rw [zonesTotal_cons, ← Nat.add_assoc] at high
      obtain ⟨l, i, y, found, zone', at', low', high', track, sector⟩ := ih (zone + 1) _ past high
      have start' : start + z.sectors + zonesTotal (zs.take i) = start + zonesTotal ((z :: zs).take (i + 1)) := by
        rw [List.take_succ_cons, zonesTotal_cons, ← Nat.add_assoc]
        rfl
      rw [start'] at low' high' track sector
      exact ⟨l, i + 1, y, found, by omega, at', low', high', track, sector⟩

/-- The PSA of a track and sector of a zone, by the numbering of R4. -/
theorem psaOf_of_zone (t sec : Nat) (z : Zone) (inside : z.first ≤ t ∧ t < z.first + z.tracks ∧ sec < z.spt)
    (zs : List Zone) : ∀ (first start i : Nat), ZonesTile first zs → zs[i]? = some z →
    psaOf start zs t sec = some (start + zonesTotal (zs.take i) + (t - z.first) * z.spt + sec) := by
  induction zs with
  | nil => intro first start i _ h; nomatch h
  | cons y ys ih =>
    intro first start i tile found
    unfold psaOf
    cases i with
    | zero =>
      obtain rfl : y = z := Option.some.inj found
      exact if_pos inside
    | succ i =>
      have rest := tile.2.2.2
      have after := zonesTile_first_le rest (List.mem_of_getElem? found)
      rw [if_neg (by omega), ih _ _ i rest found, List.take_succ_cons, zonesTotal_cons, ← Nat.add_assoc]

/-- A track and sector with a number are located back from it. -/
theorem locateFrom_of_psaOf (t sec q : Nat) (zs : List Zone) : ∀ zone start, psaOf start zs t sec = some q →
    start ≤ q ∧ q < start + zonesTotal zs ∧
      ∃ l, locateFrom zone start q zs = some l ∧ l.track = t ∧ l.sector = sec := by
  induction zs with
  | nil => intro zone start h; nomatch h
  | cons z zs ih =>
    intro zone start h
    unfold psaOf at h
    unfold locateFrom
    rw [zonesTotal_cons]
    split at h
    · next inside =>
      obtain ⟨low, high, sect⟩ := inside
      obtain rfl := Option.some.inj h
      have step : (t - z.first) * z.spt + sec < z.tracks * z.spt :=
        calc (t - z.first) * z.spt + sec < (t - z.first) * z.spt + z.spt := by omega
          _ = (t - z.first + 1) * z.spt := (Nat.succ_mul _ _).symm
          _ ≤ z.tracks * z.spt := Nat.mul_le_mul_right _ (by omega)
      have here : start ≤ start + (t - z.first) * z.spt + sec ∧
          start + (t - z.first) * z.spt + sec < start + z.sectors := ⟨by omega, by unfold Zone.sectors; omega⟩
      have offset : start + (t - z.first) * z.spt + sec - start = sec + (t - z.first) * z.spt := by omega
      have pos : 0 < z.spt := Nat.zero_lt_of_lt sect
      refine ⟨here.1, by omega, _, if_pos here, ?_, ?_⟩
      · simp only [offset, Nat.add_mul_div_right _ _ pos, Nat.div_eq_of_lt sect]
        omega
      · simp only [offset, Nat.add_mul_mod_self_right, Nat.mod_eq_of_lt sect]
    · obtain ⟨low, high, l, found, place⟩ := ih (zone + 1) _ h
      refine ⟨by omega, by omega, l, ?_, place⟩
      rw [if_neg fun here => absurd here.2 (Nat.not_lt.mpr low)]
      exact found

/-! ### Lookup and allocation -/

theorem lookupEntry_none (p : Nat) (es : List ListEntry) (other : ∀ x ∈ es, x.source ≠ p) :
    lookupEntry es p = none := by
  induction es with
  | nil => rfl
  | cons e es ih =>
    rw [lookupEntry, if_neg (other e List.mem_cons_self)]
    exact ih fun x h => other x (List.mem_cons_of_mem _ h)

theorem lookupEntry_of_mem {es : List ListEntry} (ascend : es.Pairwise fun a b => a.source < b.source)
    {x : ListEntry} (h : x ∈ es) : lookupEntry es x.source = some x.spare := by
  induction es with
  | nil => nomatch h
  | cons e es ih =>
    obtain ⟨first, rest⟩ := List.pairwise_cons.mp ascend
    rw [lookupEntry]
    rcases List.mem_cons.mp h with rfl | h
    · exact if_pos rfl
    · rw [if_neg (Nat.ne_of_lt (first x h))]
      exact ih rest h

theorem lookupEntry_listed {es : List ListEntry} (ascend : es.Pairwise fun a b => a.source < b.source) {p : Nat}
    (listed : ∃ e ∈ es, e.source = p) : ∃ n, lookupEntry es p = some n := by
  obtain ⟨e, mem, rfl⟩ := listed
  exact ⟨_, lookupEntry_of_mem ascend mem⟩

/-- A new source divides an ascending list where its entry is put. -/
theorem insertEntry_splits (x : ListEntry) (es : List ListEntry) (ascend : es.Pairwise fun a b => a.source < b.source)
    (new : ∀ e ∈ es, e.source ≠ x.source) : ∃ before after, es = before ++ after ∧
      (∀ e ∈ before, e.source < x.source) ∧ (∀ e ∈ after, x.source < e.source) ∧
      insertEntry x es = before ++ [x] ++ after := by
  induction es with
  | nil => exact ⟨[], [], rfl, nofun, nofun, rfl⟩
  | cons e es ih =>
    obtain ⟨first, rest⟩ := List.pairwise_cons.mp ascend
    have differs := new e List.mem_cons_self
    unfold insertEntry
    by_cases here : x.source < e.source
    · refine ⟨[], e :: es, rfl, nofun, fun y h => ?_, if_pos here⟩
      rcases List.mem_cons.mp h with rfl | h
      · exact here
      · exact Nat.lt_trans here (first y h)
    · obtain ⟨before, after, split, low, high, put⟩ := ih rest fun y h => new y (List.mem_cons_of_mem _ h)
      refine ⟨e :: before, after, by rw [split, List.cons_append], fun y h => ?_, high, ?_⟩
      · rcases List.mem_cons.mp h with rfl | h
        · omega
        · exact low y h
      · rw [if_neg here, put]
        rfl

section Allocate

variable {spares p : Nat} {l : ReplacementList} (ascend : l.entries.Pairwise fun a b => a.source < b.source)

theorem allocate_chained (found : ∃ n, lookupEntry l.entries p = some n) :
    allocate spares p l = if l.next = spares then .failed .noSpare else .spare { l with
      entries := l.entries.map fun e => if e.source = p then { e with spare := l.next } else e
      next := l.next + 1, dirty := true } := by
  have same : (l.entries.map fun e => if e.source = p then (⟨p, l.next⟩ : ListEntry) else e) =
      l.entries.map fun e => if e.source = p then { e with spare := l.next } else e := by
    refine List.map_congr_left fun e _ => ?_
    split
    · next source => rw [source]
    · rfl
  obtain ⟨n, found⟩ := found
  simp only [allocate, found, same]

theorem allocate_new (none : lookupEntry l.entries p = none) :
    allocate spares p l = if l.entries.length = 1024 then .failed .listFull
      else if l.next = spares then .failed .noSpare else .spare { l with
        entries := insertEntry ⟨p, l.next⟩ l.entries, next := l.next + 1, dirty := true } := by
  simp only [allocate, none]
  rfl

/-- The law of a list whose listed source is chained to the next spare. -/
theorem ListLaw.chained {users : Nat} (law : ListLaw users spares l) (room : l.next ≠ spares) :
    ListLaw users spares { l with
      entries := l.entries.map fun e => if e.source = p then { e with spare := l.next } else e
      next := l.next + 1, dirty := true } := by
  obtain ⟨size, ascend, below, distinct, used, limit⟩ := law
  have source (e : ListEntry) : (if e.source = p then { e with spare := l.next } else e : ListEntry).source =
      e.source := by split <;> rfl
  refine ⟨?_, ?_, ?_, ?_, ?_, ?_⟩
  · simpa using size
  · rw [List.pairwise_map]
    simpa only [source] using ascend
  · intro e mem
    obtain ⟨x, old, rfl⟩ := List.mem_map.mp mem
    rw [source]
    exact below x old
  · have both := ascend.and (List.pairwise_map.mp distinct)
    refine List.pairwise_map.mpr (List.pairwise_map.mpr (both.imp_of_mem ?_))
    rintro a b inA inB ⟨less, differ⟩
    have := used a inA
    have := used b inB
    by_cases isA : a.source = p <;> by_cases isB : b.source = p <;> simp only [isA, isB, if_true, if_false]
    all_goals omega
  · intro e mem
    obtain ⟨x, old, rfl⟩ := List.mem_map.mp mem
    have := used x old
    split
    · exact Nat.lt_succ_self _
    · exact Nat.lt_succ_of_lt this
  · dsimp only
    omega

/-- The law of a list that takes a new source on the next spare. -/
theorem ListLaw.extended {users : Nat} (law : ListLaw users spares l) (below : p < users)
    (new : ∀ e ∈ l.entries, e.source ≠ p) (size : l.entries.length ≠ 1024) (room : l.next ≠ spares) :
    ListLaw users spares { l with
      entries := insertEntry ⟨p, l.next⟩ l.entries, next := l.next + 1, dirty := true } := by
  obtain ⟨count, ascend, sources, distinct, used, limit⟩ := law
  obtain ⟨before, after, split, low, high, put⟩ := insertEntry_splits ⟨p, l.next⟩ l.entries ascend new
  have mem (e : ListEntry) : e ∈ before ++ [⟨p, l.next⟩] ++ after ↔ e = ⟨p, l.next⟩ ∨ e ∈ l.entries := by
    rw [split]
    simp only [List.mem_append, List.mem_singleton]
    tauto
  refine ⟨?_, ?_, ?_, ?_, ?_, ?_⟩
  · rw [insertEntry_length]
    omega
  · rw [split] at ascend
    obtain ⟨lows, highs, across⟩ := List.pairwise_append.mp ascend
    rw [put]
    refine List.pairwise_append.mpr ⟨List.pairwise_append.mpr ⟨lows, List.pairwise_singleton _ _, ?_⟩, highs, ?_⟩
    · intro a inA b inB
      rw [List.mem_singleton.mp inB]
      exact low a inA
    · intro a inA b inB
      rcases List.mem_append.mp inA with inA | inA
      · exact across a inA b inB
      · rw [List.mem_singleton.mp inA]
        exact high b inB
  · intro e h
    rcases (mem e).mp (put ▸ h) with rfl | h
    · exact below
    · exact sources e h
  · have order : (before ++ [(⟨p, l.next⟩ : ListEntry)] ++ after).Perm (⟨p, l.next⟩ :: l.entries) := by
      rw [split, List.append_assoc]
      exact List.perm_middle
    rw [put, (order.map _).nodup_iff, List.map_cons, List.nodup_cons]
    refine ⟨fun h => ?_, distinct⟩
    obtain ⟨e, h, spare⟩ := List.mem_map.mp h
    exact absurd (used e h) (by rw [spare]; exact Nat.lt_irrefl _)
  · intro e h
    rcases (mem e).mp (put ▸ h) with rfl | h
    · exact Nat.lt_succ_self _
    · exact Nat.lt_succ_of_lt (used e h)
  · dsimp only
    omega

end Allocate

end Sys2Proof.Machine

section

open Sys2Proof Sys2Proof.Machine Sys2Proof.Safety

/-- Settles O29. -/
theorem resolutionFindsZoneTrackAndSector : Obligations.ResolutionFindsZoneTrackAndSector := by
  unfold Obligations.ResolutionFindsZoneTrackAndSector
  refine ⟨fun zs tile => ⟨fun q inside => ?_, fun t sec q number => ?_⟩,
    fun s it i e o f facts extent first ascend => ?_⟩
  · obtain ⟨l, i, z, found, zone, at', low, high, track, sector⟩ :=
      locateFrom_found q zs 0 0 (Nat.zero_le q) (by omega)
    rw [Nat.zero_add] at zone low high track sector
    subst zone
    refine ⟨l, z, found, at', low, high, track, sector, ?_⟩
    have number := fun inside => psaOf_of_zone l.track l.sector z inside zs 4 0 l.zone tile at'
    generalize zonesTotal (zs.take l.zone) = start at *
    have pos : 0 < z.spt := Nat.pos_of_ne_zero fun zero => by rw [zero] at high; omega
    have tracks : (q - start) / z.spt < z.tracks := (Nat.div_lt_iff_lt_mul pos).mpr (by omega)
    have sectors : (q - start) % z.spt < z.spt := Nat.mod_lt _ pos
    have parts := Nat.div_add_mod' (q - start) z.spt
    generalize (q - start) / z.spt = turns at *
    generalize (q - start) % z.spt = place at *
    rw [number ⟨by omega, by omega, by omega⟩, track, sector, Nat.add_sub_cancel_left]
    exact congrArg some (by omega)
  · obtain ⟨-, below, found⟩ := locateFrom_of_psaOf t sec q zs 0 0 number
    exact ⟨by omega, found⟩
  · intro p
    have place : s.itemPlace it i = placeOf f s.list.entries p := by
      simp only [State.itemPlace, State.itemPsa, facts, extent, first, p]
    refine ⟨fun x mem source => ?_, fun other => ?_⟩
    · have found : lookupEntry s.list.entries p = some x.spare := source ▸ lookupEntry_of_mem ascend mem
      rw [place, placeOf, found]
      rfl
    · rw [place, placeOf, lookupEntry_none p s.list.entries other]
      rfl

/-- Settles O30. -/
theorem allocationFollowsTheTable : Obligations.AllocationFollowsTheTable := by
  unfold Obligations.AllocationFollowsTheTable
  intro spares p l ascend listed
  have chained (h : listed) := allocate_chained (spares := spares) (lookupEntry_listed ascend h)
  have new (h : ¬ listed) := allocate_new (spares := spares)
    (lookupEntry_none p l.entries fun x mem source => h ⟨x, mem, source⟩)
  refine ⟨fun h spent => ?_, fun h room => ?_, fun h full => ?_, fun h size spent => ?_, fun h size room => ?_⟩
  · rw [chained h, if_pos spent]
  · rw [chained h, if_neg room]
  · rw [new h, if_pos full]
  · rw [new h, if_neg size, if_pos spent]
  · obtain ⟨before, after, split, low, high, put⟩ :=
      insertEntry_splits ⟨p, l.next⟩ l.entries ascend fun x mem source => h ⟨x, mem, source⟩
    refine ⟨before, after, split, low, high, ?_⟩
    rw [new h, if_neg size, if_neg room, put]

/-- Settles O31. -/
theorem allocationKeepsTheListLaw : Obligations.AllocationKeepsTheListLaw := by
  unfold Obligations.AllocationKeepsTheListLaw
  intro users spares p l l' law below allocated
  have ascend := law.2.1
  by_cases listed : ∃ e ∈ l.entries, e.source = p
  · rw [allocate_chained (lookupEntry_listed ascend listed)] at allocated
    split at allocated
    · exact Allocation.noConfusion allocated
    · next room =>
      obtain rfl := Allocation.spare.inj allocated
      have kept := ListLaw.chained (p := p) law room
      refine ⟨kept, rfl, ?_⟩
      obtain ⟨e, mem, source⟩ := listed
      have mem' := List.mem_map_of_mem
        (f := fun e : ListEntry => if e.source = p then { e with spare := l.next } else e) mem
      have found := lookupEntry_of_mem kept.2.1 mem'
      simpa [source] using found
  · have new : ∀ e ∈ l.entries, e.source ≠ p := fun e mem source => listed ⟨e, mem, source⟩
    have none := lookupEntry_none p l.entries new
    rw [allocate_new none] at allocated
    split at allocated
    · exact Allocation.noConfusion allocated
    · next size =>
      split at allocated
      · exact Allocation.noConfusion allocated
      · next room =>
        obtain rfl := Allocation.spare.inj allocated
        exact ⟨ListLaw.extended law below new size room, rfl, lookupEntry_insertEntry p l.next l.entries none⟩

end

end

section
/-! The cartridge records read back (O32, O33). -/
set_option Elab.async false

namespace Sys2Proof.Machine
open Sys2Proof.Safety

/-! ### Bytes of a record -/

/-- A field of a piece of a record is the field at its place in the record. -/
theorem field_take_drop (bs : List Byte) (a m i n : Nat) (h : i + n ≤ m) :
    field ((bs.drop a).take m) i n = field bs (a + i) n := by
  refine congrArg ofBytes (List.map_congr_left fun k hk => ?_)
  have inside : i + k < m := by have := List.mem_range.mp hk; omega
  rw [List.getD_eq_getElem?_getD, List.getD_eq_getElem?_getD, List.getElem?_take_of_lt inside, List.getElem?_drop,
    Nat.add_assoc]

theorem field_padTo (n : Nat) (bs : List Byte) (i k : Nat) (h : i + k ≤ bs.length) :
    field (padTo n bs) i k = field bs i k := field_append_left _ _ _ _ h

theorem padTo_length (n : Nat) (bs : List Byte) (h : bs.length ≤ n) : (padTo n bs).length = n := by
  simp [padTo]
  omega

theorem crc_fits (c : BitVec 16) : c.toNat < 256 ^ 2 := c.isLt

theorem length_le_of_mem_chunks (n : Nat) (c : List Byte) : ∀ k bs, c ∈ chunks n k bs → c.length ≤ n := by
  intro k
  induction k with
  | zero => intro bs h; nomatch h
  | succ k ih =>
    intro bs h
    rcases List.mem_cons.mp h with rfl | h
    · exact List.length_take_le n bs
    · exact ih _ h

theorem chunks_flatMap {α : Type} (n : Nat) (f : α → List Byte) (size : ∀ x, (f x).length = n) (l : List α)
    (ys : List Byte) : chunks n l.length (l.flatMap f ++ ys) = l.map f := by
  induction l with
  | nil => rfl
  | cons x xs ih =>
    rw [List.flatMap_cons, List.append_assoc, List.length_cons, List.map_cons, chunks,
      List.take_left' (size x), List.drop_left' (size x), ih]

theorem flatMap_length {α : Type} (n : Nat) (f : α → List Byte) (size : ∀ x, (f x).length = n) (l : List α) :
    (l.flatMap f).length = n * l.length := by
  induction l with
  | nil => rfl
  | cons x xs ih =>
    rw [List.flatMap_cons, List.length_append, size, ih, List.length_cons, Nat.mul_succ, Nat.add_comm]

/-- Sectors filled up from a run of bytes hold it, whatever follows. -/
theorem take_flatten_sectors (bs : List Byte) : ∀ n, bs.length ≤ 1024 * n →
    (((chunks 1024 n bs).map (padTo 1024)).flatten).take bs.length = bs := by
  intro n
  induction n generalizing bs with
  | zero =>
    intro h
    obtain rfl : bs = [] := List.eq_nil_of_length_eq_zero (by omega)
    rfl
  | succ n ih =>
    intro h
    rw [chunks, List.map_cons, List.flatten_cons]
    by_cases short : bs.length ≤ 1024
    · rw [List.take_of_length_le short, padTo, List.append_assoc]
      exact List.take_left
    · have full : (bs.take 1024).length = 1024 := by simp; omega
      have whole : padTo 1024 (bs.take 1024) = bs.take 1024 := by simp [padTo, full]
      have rest := ih (bs.drop 1024) (by simp; omega)
      rw [List.length_drop] at rest
      rw [whole, List.take_append, full, rest, List.take_of_length_le (by omega), List.take_append_drop]

/-! ### The list image -/

theorem sectorData_zip (image : List Block) : ∀ k n, k ≤ n →
    sectorData n ((List.range' k image.length).zip image) = image.getD (n - k) zeroBlock := by
  induction image with
  | nil => intro k n _; rfl
  | cons b image ih =>
    intro k n h
    rw [List.length_cons, List.range'_succ, List.zip_cons_cons, sectorData]
    by_cases here : k = n
    · rw [if_pos here, here, Nat.sub_self]
      rfl
    · rw [if_neg here, ih (k + 1) n (by omega)]
      have next : n - k = (n - (k + 1)) + 1 := by omega
      rw [next]
      rfl

theorem entrySectors_enough (c : Nat) : 8 * c ≤ 1024 * entrySectors c := by
  simp only [entrySectors, Config.entriesPerSector]
  omega

/-- The bytes of an entry of a list image (R9). -/
def entryOf (e : ListEntry) : List Byte := toBytes 4 e.source ++ toBytes 4 e.spare

theorem entryOf_length (e : ListEntry) : (entryOf e).length = 8 := by simp [entryOf]

/-- The first six bytes of a list image (R9). -/
def headOf (l : ReplacementList) : List Byte :=
  toBytes 2 0xC341 ++ toBytes 2 l.entries.length ++ toBytes 2 l.next

theorem headOf_length (l : ReplacementList) : (headOf l).length = 6 := by simp [headOf]

theorem listImage_eq (l : ReplacementList) :
    listImage l =
      padTo 1024 (headOf l ++ toBytes 2 (crc16 (headOf l ++ l.entries.flatMap entryOf)).toNat) ::
        entryImage (entrySectors l.entries.length) (l.entries.flatMap entryOf) := rfl

theorem entriesOfBytes_entries (es : List ListEntry) (users next : Nat) (u : users ≤ 524288) (n : next ≤ 2048)
    (sources : ∀ e ∈ es, e.source < users) (spares : ∀ e ∈ es, e.spare < next) :
    entriesOfBytes es.length (es.flatMap entryOf) = es := by
  have cut := chunks_flatMap 8 entryOf entryOf_length es []
  rw [List.append_nil] at cut
  unfold entriesOfBytes
  rw [cut, List.map_map]
  refine (List.map_congr_left fun e mem => ?_).trans (List.map_id es)
  have source : field (entryOf e) 0 4 = e.source :=
    field_toBytes [] _ 0 4 _ rfl (Nat.lt_of_lt_of_le (sources e mem) (by omega))
  have spare : field (entryOf e) 4 4 = e.spare := by
    have last := field_toBytes (toBytes 4 e.source) [] 4 4 e.spare (toBytes_length 4 _)
      (Nat.lt_of_lt_of_le (spares e mem) (by omega))
    rwa [List.append_nil] at last
  simp only [Function.comp, source, spare, id]

theorem sourcesAscend_of_pairwise (es : List ListEntry) (ascend : es.Pairwise fun a b => a.source < b.source) :
    sourcesAscend es = true := by
  induction es with
  | nil => rfl
  | cons a es ih =>
    obtain ⟨first, rest⟩ := List.pairwise_cons.mp ascend
    cases es with
    | nil => rfl
    | cons b es =>
      rw [sourcesAscend, ih rest, Bool.and_true]
      exact decide_eq_true (first b List.mem_cons_self)

/-- The entry bytes of an image are read back from its sectors. -/
theorem entryBytes_image (l : ReplacementList) (head : Block) :
    entryBytes l.entries.length
      ((List.range (head :: entryImage (entrySectors l.entries.length) (l.entries.flatMap entryOf)).length).zip
        (head :: entryImage (entrySectors l.entries.length) (l.entries.flatMap entryOf))) =
      l.entries.flatMap entryOf := by
  have bytes := flatMap_length 8 entryOf entryOf_length l.entries
  have size : (entryImage (entrySectors l.entries.length) (l.entries.flatMap entryOf)).length =
      entrySectors l.entries.length := by simp [entryImage]
  have sectors : (List.range (entrySectors l.entries.length)).flatMap (fun k => (sectorData (k + 1)
      ((List.range (head :: entryImage (entrySectors l.entries.length) (l.entries.flatMap entryOf)).length).zip
        (head :: entryImage (entrySectors l.entries.length) (l.entries.flatMap entryOf)))).take 1024) =
      (entryImage (entrySectors l.entries.length) (l.entries.flatMap entryOf)).flatten := by
    rw [List.range_eq_range', List.flatMap_def]
    refine congrArg List.flatten (List.ext_getElem (by simp [size]) fun k hk hk' => ?_)
    rw [List.getElem_map, List.getElem_range, sectorData_zip _ 0 (k + 1) (Nat.zero_le _), Nat.sub_zero]
    have full : (entryImage (entrySectors l.entries.length) (l.entries.flatMap entryOf))[k].length ≤ 1024 := by
      simp only [entryImage, List.getElem_map]
      exact (padTo_length 1024 _ (length_le_of_mem_chunks 1024 _ _ _ (List.getElem_mem _))).le
    rw [List.getD_cons_succ, List.getD_eq_getElem _ _ hk', List.take_of_length_le full]
  unfold entryBytes
  rw [sectors, ← bytes]
  exact take_flatten_sectors _ _ (bytes ▸ entrySectors_enough _)

theorem readList_image (f : Facts) (l : ReplacementList) (u : f.users ≤ 524288) (n : f.spares ≤ 2048)
    (law : ListLaw f.users f.spares l) :
    readList f ((List.range (listImage l).length).zip (listImage l)) =
      some { loaded := true, entries := l.entries, next := l.next, dirty := false, request := false } := by
  obtain ⟨count, ascend, sources, distinct, used, limit⟩ := law
  obtain ⟨check, image⟩ : ∃ check, check = crc16 (headOf l ++ l.entries.flatMap entryOf) := ⟨_, rfl⟩
  have header : sectorData 0 ((List.range (listImage l).length).zip (listImage l)) =
      padTo 1024 (headOf l ++ toBytes 2 check.toNat) := by
    rw [List.range_eq_range', sectorData_zip _ 0 0 le_rfl, listImage_eq, image]
    rfl
  have bytes : entryBytes l.entries.length ((List.range (listImage l).length).zip (listImage l)) =
      l.entries.flatMap entryOf := by
    rw [listImage_eq]
    exact entryBytes_image l _
  have size : (headOf l ++ toBytes 2 check.toNat).length = 8 := by simp [headOf_length]
  have start : (padTo 1024 (headOf l ++ toBytes 2 check.toNat)).take 6 = headOf l := by
    rw [padTo, List.append_assoc]
    exact List.take_left' (headOf_length l)
  have read (i : Nat) (h : i + 2 ≤ 8) : field (padTo 1024 (headOf l ++ toBytes 2 check.toNat)) i 2 =
      field (headOf l ++ toBytes 2 check.toNat) i 2 := field_padTo _ _ _ _ (size.symm ▸ h)
  have identity : field (headOf l ++ toBytes 2 check.toNat) 0 2 = 0xC341 := by
    rw [headOf, List.append_assoc, List.append_assoc]
    exact field_toBytes [] _ 0 2 _ rfl (by decide)
  have entries : field (headOf l ++ toBytes 2 check.toNat) 2 2 = l.entries.length := by
    rw [headOf, List.append_assoc, List.append_assoc]
    exact field_toBytes (toBytes 2 0xC341) _ 2 2 _ rfl (by omega)
  have next : field (headOf l ++ toBytes 2 check.toNat) 4 2 = l.next := by
    rw [headOf, List.append_assoc]
    exact field_toBytes (toBytes 2 0xC341 ++ toBytes 2 l.entries.length) _ 4 2 _ (by simp) (by omega)
  have checked : field (headOf l ++ toBytes 2 check.toNat) 6 2 = check.toNat := by
    have last := field_toBytes (headOf l) [] 6 2 check.toNat (headOf_length l) (crc_fits check)
    rwa [List.append_nil] at last
  have counted : headerCount (padTo 1024 (headOf l ++ toBytes 2 check.toNat)) = some l.entries.length := by
    unfold headerCount
    rw [read 0 (by omega), read 2 (by omega), identity, entries]
    exact if_pos ⟨rfl, count⟩
  unfold readList
  simp only [header, counted, bytes, start, read 6 (by omega), read 4 (by omega), checked, next, ← image,
    entriesOfBytes_entries l.entries f.users l.next u (le_trans limit n) sources used]
  exact if_pos ⟨trivial, limit, sourcesAscend_of_pairwise _ ascend, sources, distinct, used⟩

/-! ### The format record -/

theorem kindOfByte_eq (b : Nat) (kind : MediaKind) :
    kindOfByte b = some kind ↔ b = (match kind with | .e => 1 | .d => 2 | .w => 3) := by
  unfold kindOfByte
  cases kind <;> split_ifs <;> simp_all

theorem zonesOfBytes_eq (count : Nat) (bs : Block) :
    zonesOfBytes count bs = (List.range count).map fun i =>
      ⟨field bs (6 + 5 * i) 2, field bs (8 + 5 * i) 2, field bs (10 + 5 * i) 1⟩ := by
  refine List.ext_getElem? fun i => ?_
  by_cases inside : i < count
  · have range : (List.range count)[i]? = some i := by simp [inside]
    simp only [zonesOfBytes, List.getElem?_map, chunks_getElem? 5 count _ i inside, range, Option.map_some,
      List.drop_drop]
    rw [field_take_drop _ _ 5 0 2 (by omega), field_take_drop _ _ 5 2 2 (by omega),
      field_take_drop _ _ 5 4 1 (by omega)]
    simp only [Nat.add_zero, Nat.add_right_comm 6]
  · have outside : count ≤ i := Nat.le_of_not_lt inside
    rw [List.getElem?_eq_none (by simp [zonesOfBytes, outside]), List.getElem?_eq_none (by simp [outside])]

/-- Test 6 of R8 and the zones' own tests say that the zones tile the zoned area. -/
theorem zonesTile_iff (zs : List Zone) (some : zs ≠ []) (sectors : ∀ z ∈ zs, 17 ≤ z.spt) (first : Nat) :
    ZonesTile first zs ↔
      zs.head?.map Zone.first = .some first ∧ zonesTile zs = true ∧ ∀ z ∈ zs, z.tracks ≠ 0 := by
  induction zs generalizing first with
  | nil => exact absurd rfl some
  | cons z zs ih =>
    have spt := sectors z List.mem_cons_self
    cases zs with
    | nil =>
      simp [ZonesTile, zonesTile]
      omega
    | cons y ys =>
      have rest := ih (by simp) (fun x h => sectors x (List.mem_cons_of_mem _ h)) (z.first + z.tracks)
      rw [ZonesTile, rest, zonesTile]
      simp only [List.head?_cons, Option.map_some, Option.some.injEq, Bool.and_eq_true, decide_eq_true_eq,
        List.forall_mem_cons]
      constructor
      · rintro ⟨start, tracks, -, next, tile, others⟩
        exact ⟨start, ⟨next, tile⟩, Nat.pos_iff_ne_zero.mp tracks, others⟩
      · rintro ⟨start, ⟨next, tile⟩, tracks, others⟩
        exact ⟨start, Nat.pos_of_ne_zero tracks, by omega, next, tile, others⟩

/-- The nine tests of R8, with the facts of a record that passes them. -/
theorem readFormat_iff (b : Block) (f : Facts) : readFormat b = some f ↔
    field b 2 1 = (match f.kind with | .e => 1 | .d => 2 | .w => 3) ∧
      (field b 91 2 = (crc16 (b.take 91)).toNat ∧ field b 0 2 = 0xC340 ∧ field b 3 2 = 1024 ∧
        1 ≤ field b 5 1 ∧ field b 5 1 ≤ 16 ∧ ZonesTile 4 f.zones ∧ (∀ z ∈ f.zones, 17 ≤ z.spt ∧ z.spt ≤ 40) ∧
        field b 86 3 + field b 89 2 = zonesTotal f.zones ∧ field b 86 3 ≤ 524288 ∧ field b 89 2 ≤ 2048) ∧
      f.zones = zonesOfBytes (field b 5 1) b ∧ f.total = zonesTotal f.zones ∧ f.users = field b 86 3 ∧
      f.spares = field b 89 2 := by
  have zones : 1 ≤ field b 5 1 → (∀ z ∈ zonesOfBytes (field b 5 1) b, 17 ≤ z.spt) →
      (ZonesTile 4 (zonesOfBytes (field b 5 1) b) ↔
        (zonesOfBytes (field b 5 1) b).head?.map Zone.first = some 4 ∧
          zonesTile (zonesOfBytes (field b 5 1) b) = true ∧ ∀ z ∈ zonesOfBytes (field b 5 1) b, z.tracks ≠ 0) := by
    intro some sectors
    refine zonesTile_iff _ (fun none => ?_) sectors 4
    have size : (zonesOfBytes (field b 5 1) b).length = field b 5 1 := by simp [zonesOfBytes]
    rw [none, List.length_nil] at size
    omega
  unfold readFormat
  dsimp only
  cases kind : kindOfByte (field b 2 1) with
  | none =>
    refine ⟨nofun, fun h => ?_⟩
    rw [(kindOfByte_eq _ f.kind).mpr h.1] at kind
    exact nomatch kind
  | some k =>
    constructor
    · intro read
      dsimp only at read
      split at read
      · next tests =>
        obtain ⟨crc, identity, size, some, few, first, tile, each, sum, users, spares⟩ := tests
        obtain rfl := Option.some.inj read
        exact ⟨(kindOfByte_eq _ k).mp kind, ⟨crc, identity, size, some, few,
          (zones some fun z h => (each z h).2.1).mpr ⟨first, tile, fun z h => (each z h).1⟩,
          fun z h => (each z h).2, sum, users, spares⟩, rfl, rfl, rfl, rfl⟩
      · exact nomatch read
    · rintro ⟨byte, ⟨crc, identity, size, some, few, tile, each, sum, users, spares⟩, fz, ft, fu, fs⟩
      obtain ⟨fk, fz', ft', fu', fs'⟩ := f
      dsimp only at byte fz ft fu fs tile each sum
      subst fz ft fu fs
      have same : k = fk := Option.some.inj (kind.symm.trans ((kindOfByte_eq _ fk).mpr byte))
      subst same
      obtain ⟨first, tiles, tracks⟩ := (zones some fun z h => (each z h).1).mp tile
      exact if_pos ⟨crc, identity, size, some, few, first, tiles, fun z h => ⟨tracks z h, each z h⟩, sum, users,
        spares⟩

/-! ### The extent image -/

theorem extentToBytes_length (e : Extent) : (extentToBytes e).length = 8 := by simp [extentToBytes]

theorem toBytes_one (v : Nat) : toBytes 1 v = [BitVec.ofNat 8 v] := by simp [toBytes]

theorem bits_six : ∀ a b c d e f : Bool, let x := BitVec.ofNat 8 (bits [a, b, c, d, e, f])
    x.getLsbD 0 = a ∧ x.getLsbD 1 = b ∧ x.getLsbD 2 = c ∧ x.getLsbD 3 = d ∧ x.getLsbD 4 = e ∧ x.getLsbD 5 = f := by
  decide

theorem bits_two : ∀ a b : Bool, let x := BitVec.ofNat 8 (bits [a, b])
    x.getLsbD 0 = a ∧ x.getLsbD 1 = b := by
  decide

theorem bit_lowest : ∀ a : Bool, (BitVec.ofNat 8 (bit a)).getLsbD 0 = a := by decide

theorem extentOfBytes_extentToBytes (e : Extent) : extentOfBytes (extentToBytes e) = e := by
  obtain ⟨v, base, limit, ro, sv, si, oi, ds, wa, rf, ch⟩ := e
  have b : field (extentToBytes ⟨v, base, limit, ro, sv, si, oi, ds, wa, rf, ch⟩) 1 2 = base.toNat := by
    simp only [extentToBytes, List.append_assoc]
    exact field_toBytes (toBytes 1 _) _ 1 2 _ rfl (Nat.lt_of_lt_of_le base.isLt (by decide))
  have l : field (extentToBytes ⟨v, base, limit, ro, sv, si, oi, ds, wa, rf, ch⟩) 3 2 = limit.toNat := by
    have shape : extentToBytes ⟨v, base, limit, ro, sv, si, oi, ds, wa, rf, ch⟩ =
      (toBytes 1 (bit v) ++ toBytes 2 base.toNat) ++ (toBytes 2 limit.toNat ++
        (toBytes 1 (bits [ro, sv, si, oi, ds, wa]) ++ (toBytes 1 (bits [rf, ch]) ++ toBytes 1 0))) := by
      simp only [extentToBytes, List.append_assoc]
    rw [shape]
    exact field_toBytes _ _ 3 2 _ rfl (Nat.lt_of_lt_of_le limit.isLt (by decide))
  unfold extentOfBytes
  rw [b, l]
  simp only [BitVec.ofNat_toNat, BitVec.setWidth_eq, Extent.mk.injEq, true_and]
  simp only [extentToBytes, toBytes, List.cons_append, List.nil_append, List.getD_cons_zero, List.getD_cons_succ,
    pow_zero, Nat.div_one]
  obtain ⟨ro', sv', si', oi', ds', wa'⟩ := bits_six ro sv si oi ds wa
  obtain ⟨rf', ch'⟩ := bits_two rf ch
  exact ⟨bit_lowest v, ro', sv', si', oi', ds', wa', rf', ch'⟩

theorem extentImage_reads (es : List Extent) (size : es.length = 48) :
    ∃ b, extentImage es = [b] ∧ b.length = 1024 ∧ readExtents b = some es := by
  have table := flatMap_length 8 extentToBytes extentToBytes_length es
  obtain ⟨body, body_eq⟩ : ∃ body, body = toBytes 2 0xC342 ++ es.flatMap extentToBytes := ⟨_, rfl⟩
  have length : body.length = 386 := by
    rw [body_eq, List.length_append, table, toBytes_length, size]
  have whole : (body ++ toBytes 2 (crc16 body).toNat).length = 388 := by simp [length]
  refine ⟨padTo 1024 (body ++ toBytes 2 (crc16 body).toNat), by rw [body_eq]; rfl,
    padTo_length _ _ (by omega), ?_⟩
  have check : field (padTo 1024 (body ++ toBytes 2 (crc16 body).toNat)) 386 2 = (crc16 body).toNat := by
    have last := field_toBytes body [] 386 2 (crc16 body).toNat length (crc_fits _)
    rw [List.append_nil] at last
    rw [field_padTo _ _ _ _ (by omega), last]
  have start : (padTo 1024 (body ++ toBytes 2 (crc16 body).toNat)).take 386 = body := by
    rw [padTo, List.append_assoc]
    exact List.take_left' length
  have identity : field (padTo 1024 (body ++ toBytes 2 (crc16 body).toNat)) 0 2 = 0xC342 := by
    rw [field_padTo _ _ _ _ (by omega), body_eq, List.append_assoc]
    exact field_toBytes [] _ 0 2 _ rfl (by decide)
  have entries : (chunks 8 48 ((padTo 1024 (body ++ toBytes 2 (crc16 body).toNat)).drop 2)).map extentOfBytes =
      es := by
    have cut (rest : List Byte) : (toBytes 2 0xC342 ++ es.flatMap extentToBytes ++ rest).drop 2 =
        es.flatMap extentToBytes ++ rest := by
      rw [List.append_assoc]
      exact List.drop_left' (toBytes_length 2 _)
    rw [padTo, List.append_assoc, body_eq, cut, ← size, chunks_flatMap 8 extentToBytes extentToBytes_length,
      List.map_map]
    refine (List.map_congr_left fun e _ => ?_).trans (List.map_id es)
    exact extentOfBytes_extentToBytes e
  unfold readExtents
  rw [check, start, identity, Config.extentEntries, entries]
  exact if_pos ⟨rfl, rfl⟩

end Sys2Proof.Machine

section

open Sys2Proof Sys2Proof.Machine Sys2Proof.Safety

/-- Settles O32. -/
theorem theListImageReadsBack : Obligations.TheListImageReadsBack := by
  unfold Obligations.TheListImageReadsBack
  exact readList_image

/-- Settles O33. -/
theorem theFormatAndExtentRecordsAreReadAsTheyStand : Obligations.TheFormatAndExtentRecordsAreReadAsTheyStand := by
  unfold Obligations.TheFormatAndExtentRecordsAreReadAsTheyStand
  refine ⟨fun b f read => ?_, fun b kind => ?_,
    extentImage_reads⟩
  · obtain ⟨kind, ⟨crc, identity, size, some, few, tile, each, sum, users, spares⟩, fz, ft, fu, fs⟩ :=
      (readFormat_iff b f).mp read
    have count : f.zones.length = field b 5 1 := by rw [fz]; simp [zonesOfBytes]
    refine ⟨tile, by omega, by omega, each, ft, by omega, by omega, by omega, identity, size, crc, kind, count, fu,
      fs, fun i inside => ?_⟩
    have range : (List.range (field b 5 1))[i]? = .some i := List.getElem?_range (count ▸ inside)
    rw [fz, zonesOfBytes_eq, List.getElem?_map, range]
    rfl
  · intro zones crc identity byte size some few tile each sum users spares
    have same : zones = zonesOfBytes (field b 5 1) b := (zonesOfBytes_eq _ b).symm
    exact (readFormat_iff b ⟨kind, zones, zonesTotal zones, field b 86 3, field b 89 2⟩).mpr
      ⟨byte, ⟨crc, identity, size, some, few, tile, each, sum, users, spares⟩, same, rfl, rfl, rfl⟩

end

end

section
/-! The runs that are begun, the ending of a task in service, and the drive: index arrivals and losses, the unload and
its completion (O35 to O38). -/
set_option Elab.async false

namespace Sys2Proof.Machine
open Sys2Proof.Safety

/-! ### Runs that are begun -/

theorem passAwaited_head (s : State) : (passAwaited s).head.task = s.head.task ∧
    (passAwaited s).head.track = s.head.track ∧ (passAwaited s).head.run = s.head.run ∧
    (passAwaited s).head.pass = s.head.pass ∧ (passAwaited s).head.later = s.head.later ∧
    (passAwaited s).head.readIn = s.head.readIn ∧ (passAwaited s).head.wrongTracks = s.head.wrongTracks := by
  unfold passAwaited
  dsimp only
  cases s.passBias with
  | none => dsimp only; split <;> exact ⟨rfl, rfl, rfl, rfl, rfl, rfl, rfl⟩
  | some b =>
    dsimp only
    split
    · split <;> exact ⟨rfl, rfl, rfl, rfl, rfl, rfl, rfl⟩
    · exact ⟨rfl, rfl, rfl, rfl, rfl, rfl, rfl⟩

theorem runBegun_head (r : Run) (pass : PassKind) (later : List PassKind) (s : State) :
    (runBegun r pass later s).head.task = s.head.task ∧ (runBegun r pass later s).head.track = s.head.track ∧
    (runBegun r pass later s).head.run = some r ∧ (runBegun r pass later s).head.pass = pass ∧
    (runBegun r pass later s).head.later = later ∧ (runBegun r pass later s).head.readIn = s.head.readIn ∧
    (runBegun r pass later s).head.wrongTracks = 0 := by
  unfold runBegun
  dsimp only
  split
  · exact passAwaited_head _
  · exact ⟨rfl, rfl, rfl, rfl, rfl, rfl, rfl⟩

theorem controlTargets_eq (first last : Nat) :
    controlTargets first last =
      (List.range (last + 1 - first)).map fun i => ⟨first + i, first + i, .toAct, false, 0⟩ := by
  rw [controlTargets, List.range'_eq_map_range, List.map_map]
  rfl

theorem State.startControlRead_first (r : ControlRead) (s : State) (first : r ≠ .listEntries) :
    s.startControlRead r = readBegun r (match r with | .format => 0 | .extents => 2 | _ => 1) 0 1 [] s := by
  unfold State.startControlRead readBegun
  cases r
  case listEntries => exact absurd rfl first
  all_goals exact State.startRun_eq _ _ _ _

theorem State.startControlRead_entries (s : State) :
    s.startControlRead .listEntries = readBegun .listEntries 1 1
      (entrySectors ((headerCount (sectorData 0 s.head.readIn)).getD 0)) s.head.readIn s := by
  unfold State.startControlRead readBegun
  dsimp only
  rw [controlTargets_eq]
  exact State.startRun_eq _ _ _ _

theorem listImage_length_pos (l : ReplacementList) : 0 < (listImage l).length := by simp [listImage]

theorem State.startWriteBack_eq (s : State) : s.startWriteBack = writeBackBegun s := by
  have targets : controlTargets 0 ((listImage s.list).length - 1) =
      (List.range (listImage s.list).length).map fun n => ⟨n, n, .toAct, false, 0⟩ := by
    have pos := listImage_length_pos s.list
    rw [controlTargets_eq, Nat.sub_add_cancel pos]
    simp only [Nat.zero_add, Nat.sub_zero]
  unfold State.startWriteBack writeBackBegun
  dsimp only
  rw [targets]
  exact State.startRun_eq _ _ _ _

/-! ### The ending of the task in service -/

theorem queue_of_head? {s : State} {it : WorkItem} (front : s.queue.head? = some it) :
    s.queue = it :: s.queue.tail := by
  cases queue : s.queue with
  | nil => rw [queue] at front; exact nomatch front
  | cons x rest => rw [queue] at front; exact congrArg (· :: rest) (Option.some.inj front)

theorem State.endTask_serves (o : ItemOutcome) (c : WriteCause) {it : WorkItem} {s : State} (serves : Serves it s) :
    HeadEnds o c it s (s.endTask o c) := by
  obtain ⟨task, front, work⟩ := serves
  have same : s.endTask o c = s.endItem o c := by
    unfold State.endTask
    rw [task]
    exact if_neg work
  rw [same]
  exact s.endItem_headEnds it s.queue.tail o c (queue_of_head? front)

theorem State.formatRead_none (s : State) : s.formatRead none = mountFailed .format s := s.mountFails_eq .format

theorem State.listRead_none (s : State) : s.listRead none = mountFailed .list s := by
  unfold State.listRead
  cases s.drive.facts <;> exact s.mountFails_eq .list

/-- No ending of a task sets the revolution timer tracking again. -/
theorem State.endTask_tracking (o : ItemOutcome) (c : WriteCause) (s : State)
    (lost : s.drive.tracking = false) : (s.endTask o c).drive.tracking = false := by
  have same {f : Footprint} {t u : State} (h : SameOutside f t u) (drive : f.drive = false)
      (lost : t.drive.tracking = false) : u.drive.tracking = false := by rw [h.1 drive, lost]
  have fails (m : MountFault) (t : State) : (mountFailed m t).drive.tracking = false := rfl
  have reads (r : ControlRead) (t : State) (lost : t.drive.tracking = false) :
      (t.controlReadFails r).drive.tracking = false := by
    unfold State.controlReadFails
    cases r <;> dsimp only
    · rw [State.formatRead_none]
      exact fails _ _
    · rw [State.listRead_none]
      exact fails _ _
    · rw [State.listRead_none]
      exact fails _ _
    · unfold State.extentsRead State.mountSucceeds
      dsimp only [Option.bind_none]
      split <;> exact lost
  unfold State.endTask
  split
  · exact lost
  · split
    · dsimp only
      split
      · exact lost
      · split
        · exact same (State.endItem_same _ _ _) rfl lost
        · exact same (State.startRewrite_same _) rfl lost
    · exact same (State.endItem_same _ _ _) rfl lost
  · exact lost
  · exact lost
  · exact lost
  · exact reads _ _ lost

/-! ### Index arrivals -/

theorem State.speedBecomes_unchanged (new : SpeedStatus) (p : Option Nat) (s : State) (was : s.drive.speed = new) :
    s.speedBecomes new p = s := by
  subst was
  exact if_pos rfl

theorem State.speedBecomes_off (p : Option Nat) (s : State) :
    s.speedBecomes .offSpeed p = if s.drive.state = .ready ∧ s.drive.speed = .inSpeed then
        reports (s.setDrive { s.drive with speed := .offSpeed }) [.notice (.speedLost p)]
      else s.setDrive { s.drive with speed := .offSpeed } := by
  unfold State.speedBecomes
  dsimp only
  cases s.drive.speed
  · simp [State.mapDrive]
  · simp only [reduceCtorEq, if_false, and_true]
    rfl

theorem State.indexLoss_eq (s : State) (on : s.drive.spindle = true) (counts : s.drive.counter ≠ 65535) :
    s.indexLoss = if s.head.activity = .awaitingStart ∨ s.head.activity = .inPass then
      (indexGone s).endTask .sectorMissing .none else indexGone s := by
  have gone : (s.mapDrive fun d =>
      { d with counter := Config.counterTop, period := none, tracking := false, good := 0 }).speedBecomes .offSpeed
        none = indexGone s := by
    rw [State.speedBecomes_off]
    rfl
  have head : (indexGone s).head = s.head := by unfold indexGone; dsimp only; split <;> rfl
  unfold State.indexLoss
  rw [if_pos ⟨on, counts⟩]
  dsimp only
  rw [gone, head]

theorem State.indexLoss_passed (s : State) (h : s.drive.spindle = false ∨ s.drive.counter = 65535) :
    s.indexLoss = s := by
  unfold State.indexLoss
  rw [if_neg]
  rintro ⟨on, counts⟩
  rcases h with off | top
  · simp [off] at on
  · exact counts top

theorem indexGone_serves {it : WorkItem} {s : State} (serves : Serves it s) : Serves it (indexGone s) := by
  unfold indexGone
  dsimp only
  split <;> exact serves

theorem State.countRevolution_eq (s : State) : s.countRevolution =
    s.setHead (if s.head.activity = .inPass then { s.head with revs := min 4 (s.head.revs + 1) } else s.head) := by
  unfold State.countRevolution
  split <;> rfl

theorem State.indexAt_resumes (v : Nat) (s : State) (lost : s.drive.tracking = false) :
    s.indexAt v = trackingResumed s := by
  unfold State.indexAt
  rw [if_neg (by simp [lost]), State.countRevolution_eq]
  rfl

theorem State.indexArrives_off (elapsed : Nat) (s : State) (off : s.drive.spindle = false) :
    s.indexArrives elapsed = s := by
  unfold State.indexArrives
  rw [if_neg (by simp [off])]

theorem State.indexArrives_in_time (elapsed : Nat) (s : State) (on : s.drive.spindle = true)
    (low : s.drive.counter + elapsed < 65535) : s.indexArrives elapsed = s.indexAt (s.drive.counter + elapsed) := by
  unfold State.indexArrives
  exact (if_pos on).trans (if_pos low)

theorem State.indexArrives_late (elapsed : Nat) (s : State) (on : s.drive.spindle = true)
    (high : 65535 ≤ s.drive.counter + elapsed) : s.indexArrives elapsed =
      if s.indexLoss.drive.spindle = true then s.indexLoss.indexAt s.indexLoss.drive.counter else s.indexLoss := by
  unfold State.indexArrives
  exact (if_pos on).trans (if_neg (Nat.not_lt.mpr high))

theorem State.indexLoss_tracking (s : State) (on : s.drive.spindle = true) (counts : s.drive.counter ≠ 65535) :
    s.indexLoss.drive.tracking = false := by
  have gone : (indexGone s).drive.tracking = false := by unfold indexGone; dsimp only; split <;> rfl
  rw [s.indexLoss_eq on counts]
  split
  · exact State.endTask_tracking _ _ _ gone
  · exact gone

theorem State.speedBecomes_back (p : Option Nat) (s : State) (was : s.drive.speed = .offSpeed) :
    s.speedBecomes .inSpeed p =
      let resumed := if s.head.activity = .holding then
          (s.setDrive { s.drive with speed := .inSpeed }).setHead
            { s.head with activity := .awaitingStart, holdTimer := none }
        else s.setDrive { s.drive with speed := .inSpeed }
      if s.drive.state = .ready then reports resumed [.notice (.speedBack (periodValue p))]
      else if s.drive.state = .spinningUp then resumed.startMount else resumed := by
  unfold State.speedBecomes
  dsimp only
  rw [was, if_neg nofun]
  by_cases ready : s.drive.state = .ready
  · by_cases holding : s.head.activity = .holding <;>
      simp only [State.mapDrive, State.mapHead, State.notify, State.produce, reports, ready, holding, if_true,
        State.setDrive_drive, State.setOutbound_drive, State.setDrive_head, State.setOutbound_head,
        State.setHead_drive, if_false, reduceCtorEq, State.setDrive_outbound]
    all_goals rfl
  · by_cases holding : s.head.activity = .holding <;>
      simp [State.mapDrive, State.mapHead, ready, holding]

/-- An index arrival while tracking: the period is captured and the speed status follows (R159, R160). -/
theorem State.indexAt_tracking (v : Nat) (s : State) (tracks : s.drive.tracking = true) :
    let good := if 16334 ≤ v ∧ v ≤ 17000 then min 2 (s.drive.good + 1) else 0
    let speed := if 16334 ≤ v ∧ v ≤ 17000 then (if good = 2 then SpeedStatus.inSpeed else s.drive.speed)
      else .offSpeed
    s.indexAt v = ((s.setDrive { s.drive with period := some v, counter := 0, good := good }).setHead
      (if s.head.activity = .inPass then { s.head with revs := min 4 (s.head.revs + 1) } else s.head)).speedBecomes
        speed (some v) := by
  have window : inWindow v = true ↔ 16334 ≤ v ∧ v ≤ 17000 := by
    rw [inWindow, Bool.and_eq_true, decide_eq_true_iff, decide_eq_true_iff]
    rfl
  unfold State.indexAt
  rw [if_pos tracks]
  simp only [window, State.countRevolution_eq]
  rfl

theorem State.startMount_facts (s : State) : s.startMount.drive = { s.drive with
      state := .mounting, spinUp := none, mountSource := s.profile.extentSource } ∧
    s.startMount.outbound = s.outbound ∧ s.startMount.head.task = .controlRead .format := by
  have same := State.startControlRead_same .format (s.mapDrive fun d =>
    { d with state := .mounting, spinUp := none, mountSource := s.profile.extentSource })
  obtain ⟨drive, -, -, -, -, -, -, -, -, -, -, outbound, -⟩ := same
  refine ⟨drive rfl, outbound rfl, ?_⟩
  unfold State.startMount
  rw [State.startControlRead_first .format _ nofun]
  exact (runBegun_head _ _ _ _).1

/-- What an index arrival while tracking leaves, and what it sends (R104, R106, R153, R160, R161). -/
theorem indexTracked_facts (s : State) (v good : Nat) (speed : SpeedStatus) (tracks : s.drive.tracking = true) :
    let t := ((s.setDrive { s.drive with period := some v, counter := 0, good := good }).setHead
      (if s.head.activity = .inPass then { s.head with revs := min 4 (s.head.revs + 1) } else s.head)).speedBecomes
        speed (some v)
    t.drive.counter = 0 ∧ t.drive.tracking = true ∧ t.drive.period = some v ∧ t.drive.good = good ∧
      t.drive.speed = speed ∧
      (s.head.activity = .inPass → s.drive.state ≠ .spinningUp → t.head.revs = min 4 (s.head.revs + 1)) ∧
      (s.drive.state = .ready → t.outbound = s.outbound ++
        (if speed = s.drive.speed then []
        else [.notice (match speed with
          | .offSpeed => .speedLost (some v)
          | .inSpeed => .speedBack v)])) ∧
      (s.drive.state ≠ .ready → t.outbound = s.outbound) ∧
      (s.drive.state = .spinningUp → s.drive.speed = .offSpeed → speed = .inSpeed →
        t.drive.state = .mounting ∧ t.drive.spinUp = none ∧ t.drive.mountSource = s.profile.extentSource ∧
        t.head.task = .controlRead .format) ∧
      (s.head.activity = .holding → s.drive.state ≠ .spinningUp → s.drive.speed = .offSpeed → speed = .inSpeed →
        t.head = { s.head with activity := .awaitingStart, holdTimer := none }) ∧
      (s.head.activity = .holding → s.drive.state ≠ .spinningUp → speed = .offSpeed → t.head = s.head) := by
  obtain ⟨head, head_eq⟩ : ∃ h, h = if s.head.activity = .inPass then
    { s.head with revs := min 4 (s.head.revs + 1) } else s.head := ⟨_, rfl⟩
  have revs (pass : s.head.activity = .inPass) : head.revs = min 4 (s.head.revs + 1) := by
    rw [head_eq, if_pos pass]
  have held (holding : s.head.activity = .holding) : head = s.head := by rw [head_eq, if_neg (by simp [holding])]
  have activity : head.activity = s.head.activity := by
    rw [head_eq]
    split <;> rfl
  rw [← head_eq]
  intro t
  by_cases same : speed = s.drive.speed
  · have stays : t = (s.setDrive { s.drive with period := some v, counter := 0, good := good }).setHead head :=
      State.speedBecomes_unchanged speed _ _ same.symm
    rw [stays]
    refine ⟨rfl, tracks, rfl, rfl, same.symm, fun pass _ => revs pass, fun _ => ?_, fun _ => rfl,
      fun _ off back => ?_, fun _ _ off back => ?_, fun holding _ _ => held holding⟩
    · rw [if_pos same]
      exact (List.append_nil _).symm
    · exact nomatch back.symm.trans (same.trans off)
    · exact nomatch back.symm.trans (same.trans off)
  · cases speed with
    | offSpeed =>
      have was : s.drive.speed = .inSpeed := by
        cases was : s.drive.speed
        · exact absurd was.symm same
        · rfl
      have lost := State.speedBecomes_off (some v)
        ((s.setDrive { s.drive with period := some v, counter := 0, good := good }).setHead head)
      by_cases ready : s.drive.state = .ready
      · have stays : t = _ := lost.trans (if_pos ⟨ready, was⟩)
        rw [stays, if_neg same]
        exact ⟨rfl, tracks, rfl, rfl, rfl, fun pass _ => revs pass, fun _ => rfl, fun other => absurd ready other,
          nofun, nofun, fun holding _ _ => held holding⟩
      · have stays : t = _ := lost.trans (if_neg fun h => ready h.1)
        rw [stays]
        exact ⟨rfl, tracks, rfl, rfl, rfl, fun pass _ => revs pass, fun r => absurd r ready, fun _ => rfl,
          nofun, nofun, fun holding _ _ => held holding⟩
    | inSpeed =>
      have was : s.drive.speed = .offSpeed := by
        cases was : s.drive.speed
        · rfl
        · exact absurd was.symm same
      have back := State.speedBecomes_back (some v)
        ((s.setDrive { s.drive with period := some v, counter := 0, good := good }).setHead head) was
      obtain ⟨w, resumed⟩ : ∃ w, w = if head.activity = .holding then
          (((s.setDrive { s.drive with period := some v, counter := 0, good := good }).setHead head).setDrive
            { s.drive with period := some v, counter := 0, good := good, speed := .inSpeed }).setHead
            { head with activity := .awaitingStart, holdTimer := none }
        else ((s.setDrive { s.drive with period := some v, counter := 0, good := good }).setHead head).setDrive
          { s.drive with period := some v, counter := 0, good := good, speed := .inSpeed } := ⟨_, rfl⟩
      have after : t = if s.drive.state = .ready then reports w [.notice (.speedBack v)]
          else if s.drive.state = .spinningUp then w.startMount else w := resumed ▸ back
      have drive : w.drive = { s.drive with period := some v, counter := 0, good := good, speed := .inSpeed } := by
        rw [resumed]
        split <;> rfl
      have rest : w.outbound = s.outbound ∧ w.profile = s.profile := by
        rw [resumed]
        split <;> exact ⟨rfl, rfl⟩
      have passing (pass : s.head.activity = .inPass) : w.head.revs = min 4 (s.head.revs + 1) := by
        rw [resumed, if_neg (by simp [activity, pass])]
        exact revs pass
      have released (holding : s.head.activity = .holding) :
          w.head = { s.head with activity := .awaitingStart, holdTimer := none } := by
        rw [resumed, if_pos (activity.trans holding), ← held holding]
        rfl
      by_cases ready : s.drive.state = .ready
      · rw [after, if_pos ready, if_neg same]
        refine ⟨?_, ?_, ?_, ?_, ?_, fun pass _ => passing pass, fun _ => ?_, fun other => absurd ready other,
          fun up => ?_, fun holding _ _ _ => released holding, nofun⟩
        · exact congrArg Drive.counter drive
        · exact (congrArg Drive.tracking drive).trans tracks
        · exact congrArg Drive.period drive
        · exact congrArg Drive.good drive
        · exact congrArg Drive.speed drive
        · exact congrArg (· ++ [Frame.notice (.speedBack v)]) rest.1
        · exact nomatch up.symm.trans ready
      · by_cases up : s.drive.state = .spinningUp
        · obtain ⟨mounting, sent, task⟩ := w.startMount_facts
          rw [drive, rest.2] at mounting
          rw [after, if_neg ready, if_pos up, mounting, sent, rest.1, task]
          exact ⟨rfl, tracks, rfl, rfl, rfl, fun _ other => absurd up other, fun r => absurd r ready, fun _ => rfl,
            fun _ _ _ => ⟨rfl, rfl, rfl, rfl⟩, fun _ other => absurd up other, nofun⟩
        · rw [after, if_neg ready, if_neg up, drive, rest.1]
          exact ⟨rfl, tracks, rfl, rfl, rfl, fun pass _ => passing pass, fun r => absurd r ready, fun _ => rfl,
            fun u => absurd u up, fun holding _ _ _ => released holding, nofun⟩

/-! ### The unload -/

theorem State.startUnload_eq (s : State) (d : Drive)
    (drive : d = { s.drive with state := .unloading, spinUp := none, mountFault := none, tried := false }) :
    (s.drive.state = .spinningUp ∨ s.drive.state = .faulted → s.startUnload = s.setDrive d) ∧
    (s.drive.state = .mounting → s.startUnload = cut (s.setDrive d)) ∧
    (s.drive.state = .ready → Settled (unloadHalts (s.setDrive d)) s.startUnload) := by
  subst drive
  unfold State.startUnload
  refine ⟨?_, fun state => ?_, fun state => ?_⟩
  · rintro (state | state) <;> rw [state] <;> rfl
  · rw [state]
    exact State.cutHead_eq_cut _
  · rw [state, ← State.unloadLanes_eq]
    exact State.settle_settled _

theorem State.unloadOrder_eq (c tag : Byte) (s : State) :
    s.unloadOrder c tag [] = match s.drive.state with
      | .empty => reports s [.answer Kind.unload tag .noMedia .none]
      | .unloading => s.setDrive { s.drive with answers := s.drive.answers ++ [tag] }
      | _ => (s.setDrive { s.drive with answers := s.drive.answers ++ [tag] }).startUnload := by
  refine Eq.trans (State.handOver_passes _ _ _ _ _ _ _ rfl nofun) ?_
  cases s.drive.state <;> rfl

theorem State.discardList_eq (atLoss : Bool) (s : State) :
    s.discardList atLoss = reports (s.setList ReplacementList.unloaded)
      (if s.list.loaded = true ∧ s.list.dirty = true then
        [.notice (.listLost atLoss s.list.entries.length s.list.next)] else []) := by
  unfold State.discardList
  dsimp only
  split
  · rfl
  · exact (congrArg (s.setList ReplacementList.unloaded).setOutbound (List.append_nil _)).symm

end Sys2Proof.Machine

section

open Sys2Proof Sys2Proof.Machine Sys2Proof.Safety

/-- Settles O35. -/
theorem indexArrivalsMeasureThePeriod : Obligations.IndexArrivalsMeasureThePeriod := by
  unfold Obligations.IndexArrivalsMeasureThePeriod
  intro s elapsed free v good speed
  have run : exec (.indexArrival elapsed) s = .next (s.indexArrives elapsed) := s.unlessHeld_free _ free
  have loss : exec .indexLost s = .next s.indexLoss := s.unlessHeld_free _ free
  rw [run, loss]
  refine ⟨fun off => ?_, fun on high counts => ?_, fun on top lost => ?_, fun on low lost => ?_,
    fun on low tracks => ⟨_, rfl, ?_⟩⟩
  · rw [s.indexArrives_off elapsed off]
  · rw [s.indexArrives_late elapsed on high]
    refine ⟨_, rfl, fun spins => ?_, fun stopped => ?_⟩
    · rw [if_pos spins, State.indexAt_resumes _ _ (s.indexLoss_tracking on counts)]
    · rw [if_neg (by simp [stopped])]
  · rw [s.indexArrives_late elapsed on (by omega), s.indexLoss_passed (.inr top), if_pos on,
      State.indexAt_resumes _ _ lost]
  · rw [s.indexArrives_in_time elapsed on low, State.indexAt_resumes _ _ lost]
  · have at' : s.indexArrives elapsed =
        ((s.setDrive { s.drive with period := some v, counter := 0, good := good }).setHead
          (if s.head.activity = .inPass then { s.head with revs := min 4 (s.head.revs + 1) } else s.head)).speedBecomes
            speed (some v) := (s.indexArrives_in_time elapsed on low).trans (s.indexAt_tracking v tracks)
    rw [at']
    exact indexTracked_facts s v good speed tracks

/-- Settles O36. -/
theorem indexLossStopsTracking : Obligations.IndexLossStopsTracking := by
  unfold Obligations.IndexLossStopsTracking
  intro s free
  have run : exec .indexLost s = .next s.indexLoss := s.unlessHeld_free _ free
  rw [run]
  refine ⟨fun off => ?_, fun on counts start pass => ?_, fun it on counts waits serves => ?_⟩
  · rw [s.indexLoss_passed off]
  · rw [s.indexLoss_eq on counts, if_neg (by simp [start, pass])]
  · rw [s.indexLoss_eq on counts, if_pos waits]
    exact ⟨_, rfl, State.endTask_serves _ _ (indexGone_serves serves)⟩

/-- Settles O37. -/
theorem ejectAndUnloadStartAnUnload : Obligations.EjectAndUnloadStartAnUnload := by
  unfold Obligations.EjectAndUnloadStartAnUnload
  intro s c tag free unloading answering
  have eject : exec .ejectButton s = .next (if s.drive.state = .empty ∨ s.drive.state = .unloading then s
      else s.startUnload) :=
    s.unlessHeld_free (fun s => if s.drive.state = .empty ∨ s.drive.state = .unloading then s else s.startUnload) free
  have order : exec (.unload c tag []) s = .next ((taken s).unloadOrder c tag []) := s.takeFrame_free _ free
  have pressed := s.startUnload_eq unloading rfl
  have ordered := ((taken s).setDrive { s.drive with answers := s.drive.answers ++ [tag] }).startUnload_eq answering rfl
  have state : (taken s).drive.state = s.drive.state := rfl
  rw [eject, order, State.unloadOrder_eq, state]
  refine ⟨fun h => ?_, fun h => ?_, fun h => ?_, fun h => ?_, fun h => ?_, fun h => ?_⟩
  · rw [if_pos h]
  · rw [h]
    rfl
  · rw [h]
    rfl
  · rw [if_neg (by rcases h with h | h <;> simp [h]), pressed.1 h]
    refine ⟨rfl, ?_⟩
    rcases h with h | h <;> rw [h] <;> exact congrArg Host.Outcome.next (ordered.1 (by simp [h]))
  · rw [if_neg (by simp [h]), pressed.2.1 h, h]
    exact ⟨rfl, congrArg Host.Outcome.next (ordered.2.1 h)⟩
  · rw [if_neg (by simp [h]), h]
    exact ⟨_, _, rfl, rfl, pressed.2.2 h, ordered.2.2 h⟩

/-- Settles O38. -/
theorem anUnloadCompletesInOrder : Obligations.AnUnloadCompletesInOrder := by
  unfold Obligations.AnUnloadCompletesInOrder
  intro s free
  have run : exec .unloadCompletion s = .next s.completeUnload := s.unlessHeld_free _ free
  rw [run]
  unfold State.completeUnload
  refine ⟨fun waits => ?_, fun state queue task loaded dirty new => ?_, fun state queue task clean => ?_⟩
  · rw [if_neg (by tauto)]
  · rw [if_pos ⟨state, queue, task⟩, if_pos ⟨loaded, dirty, new⟩, State.startWriteBack_eq]
    rfl
  · rw [if_pos ⟨state, queue, task⟩, if_neg clean]
    refine ⟨_, rfl, ?_⟩
    unfold State.releaseCartridge
    rw [State.discardList_eq, State.spindleOff_eq]
    exact ⟨rfl, rfl, rfl, rfl, rfl, rfl, rfl, rfl, rfl, rfl, rfl, rfl, rfl, rfl, queue⟩

end

end

section
/-! The lanes: the ending of a lane's item, the link, START LANE, STOP LANE, posting, the free place that goes to a
pending lane, and the descriptors loaded (O42 to O47). -/
set_option Elab.async false

namespace Sys2Proof.Machine
open Sys2Proof.Safety

theorem State.queuedItems_eq_zero (s : State) (n : Nat) :
    s.queuedItems n = 0 ↔ ∀ it ∈ s.queue, it.route ≠ .lane n := by
  simp [State.queuedItems, List.filter_eq_nil_iff]

theorem State.setLane_setLane (s : State) (n : Nat) (l l' : Lane) : (s.setLane n l).setLane n l' = s.setLane n l' :=
  congrArg s.setLanes (List.set_set ..)

theorem State.setLane_lane (s : State) (n : Nat) (l : Lane) (inside : n < s.lanes.length) :
    (s.setLane n l).lane n = l := by
  rw [State.lane_setLane, if_pos ⟨rfl, inside⟩]

theorem State.setLane_length (s : State) (n : Nat) (l : Lane) : (s.setLane n l).lanes.length = s.lanes.length :=
  List.length_set ..

theorem State.endDrain_eq (n : Nat) (s : State) :
    s.endDrain n = reports (s.setLane n { s.lane n with state := .idle, halt := none, stops := [] })
      ((s.lane n).stops.map fun tag =>
        .answer Kind.stopLane tag .ok (.stopped n (s.lane n).descriptor (s.lane n).completed)) := rfl

/-- A halt takes the lane as it stands: what was set before it does not count. -/
theorem laneHalts_setLane (n : Nat) (l l' : Lane) (c : HaltCause) (s : State) :
    laneHalts n l c (s.setLane n l') = laneHalts n l c s := by
  unfold laneHalts
  refine congrArg (reports · _) ?_
  exact congrArg (withoutWaiting (fun m => m == n) s).setLanes (List.set_set ..)

theorem State.haltLane_true (s : State) (n : Nat) (l : Lane) (c : HaltCause) (h : n < 4) (size : s.lanes.length = 4) :
    (s.setLane n l).haltLane true n c = laneHalts n l c s := by
  rw [State.haltLane_eq _ n c h ((s.setLane_length n l).trans size), State.setLane_lane _ _ _ (size ▸ h),
    laneHalts_setLane]

theorem State.haltLane_false (s : State) (n : Nat) (l : Lane) (c : HaltCause) (inside : n < s.lanes.length) :
    (s.setLane n l).haltLane false n c =
      reports (s.setLane n { l with state := .halted, halt := some c, pendingPost := none })
        [.notice (.laneHalted n l.descriptor c l.completed)] := by
  have inside' : n < (s.setLane n l).lanes.length := (s.setLane_length n l).symm ▸ inside
  unfold State.haltLane
  dsimp only
  rw [State.haltSilently_lane false n c _ inside', State.setLane_lane _ _ _ inside]
  unfold State.haltSilently
  simp only [Bool.false_eq_true, if_false]
  rw [State.setLane_setLane, State.setLane_lane _ _ _ inside]
  rfl

/-- A violation on a record that is not HELD changes nothing at the lanes. -/
theorem violated_setLane (poster : Option Nat) (a : Access) (c : CauseSet) (n : Nat) (l : Lane) (s : State)
    (calm : ¬ FaultHeld s) : violated poster a c (s.setLane n l) = (violated poster a c s).setLane n l := by
  by_cases empty : s.fault.captured = none
  · rw [violated_empty poster a c s empty, violated_empty poster a c (s.setLane n l) empty]
    rfl
  · have overrun : s.fault.overrun = true := by
      cases over' : s.fault.overrun
      · exact absurd ⟨empty, over'⟩ calm
      · rfl
    rw [violated_overrun poster a c s empty overrun, violated_overrun poster a c (s.setLane n l) empty overrun]

theorem violated_lanes (poster : Option Nat) (a : Access) (c : CauseSet) (s : State) (calm : ¬ FaultHeld s) :
    (violated poster a c s).lanes = s.lanes := by
  by_cases empty : s.fault.captured = none
  · rw [violated_empty poster a c s empty]
    rfl
  · have overrun : s.fault.overrun = true := by
      cases over' : s.fault.overrun
      · exact absurd ⟨empty, over'⟩ calm
      · rfl
    rw [violated_overrun poster a c s empty overrun]

/-! ### The result of a lane's item (R143 to R150) -/

theorem Descriptor.next_eq (d : Descriptor) :
    d.next = if d.link.toNat < 32 then some d.link.toNat else none := rfl

section Result

variable (s : State) (n : Nat) (l : Lane) (inside : n < s.lanes.length)

/-- The result at its lane, with the lane's count already raised to that of `l`. -/
theorem State.laneResult_eq (loss : Bool) (r : LaneItemResult) (inside : r.lane < s.lanes.length)
    (counted : l = { s.lane r.lane with completed := (s.lane r.lane).completed + r.blocksDone }) :
    s.laneResult loss r = match l.state with
      | .active =>
        if r.outcome = .ok then
          (if l.remaining = 0 ∧ (∀ it ∈ s.queue, it.route ≠ .lane r.lane) ∧ l.pendingPost = none then
            (s.setLane r.lane l).completeDescriptor r.lane else s.setLane r.lane l)
        else (s.setLane r.lane l).haltLane (!loss) r.lane (.outcome r.outcome r.cause)
      | .draining => (s.setLane r.lane l).endDrain r.lane
      | .halted => if l.stops = [] then s.setLane r.lane l else (s.setLane r.lane l).endDrain r.lane
      | .idle => s.setLane r.lane l := by
  have lane := s.setLane_lane r.lane l inside
  unfold State.laneResult
  dsimp only
  rw [← counted, lane]
  simp only [State.queuedItems_eq_zero]
  rfl

include inside in
theorem State.endDrain_setLane : (s.setLane n l).endDrain n =
    reports (s.setLane n { l with state := .idle, halt := none, stops := [] })
      (l.stops.map fun tag => .answer Kind.stopLane tag .ok (.stopped n l.descriptor l.completed)) := by
  rw [State.endDrain_eq, s.setLane_lane n l inside, State.setLane_setLane]

include inside in
theorem State.completeDescriptor_eq :
    let d := s.descriptorAt l.descriptor
    let told := if d.notify = 1#8 then
      reports (s.setLane n l) [.notice (.laneDone n l.descriptor l.completed)] else s.setLane n l
    (s.setLane n l).completeDescriptor n =
      if d.mode = .ring then told.setLane n (l.restartOn l.descriptor d)
      else if d.link.toNat < 32 then told.followLink n d.link.toNat else told.setLane n { l with state := .idle } := by
  have lane := s.setLane_lane n l inside
  unfold State.completeDescriptor State.laneDescriptor
  dsimp only
  have same : (s.setLane n l).descriptorAt l.descriptor = s.descriptorAt l.descriptor := rfl
  rw [lane, same, Descriptor.next_eq]
  by_cases linked : (s.descriptorAt l.descriptor).link.toNat < 32
  · rw [if_pos linked, if_pos linked]
    rfl
  · rw [if_neg linked, if_neg linked]
    rfl

end Result

theorem State.followLink_eq (n g : Nat) (l : Lane) (s : State) (h : n < 4) (size : s.lanes.length = 4)
    (lane : s.lane n = l) :
    let y := s.descriptorAt g
    let a := y.footprint l.cls n
    let causes := s.causes a
    let linked : Lane := { l with descriptor := g, completed := 0 }
    (y.startable = false → s.followLink n g = laneHalts n linked .badDescriptor s) ∧
      (y.startable = true → causes ≠ CauseSet.empty → ¬ FaultHeld s →
        s.followLink n g = laneHalts n linked (.causes causes) (violated (some n) a causes s)) ∧
      (y.startable = true → causes ≠ CauseSet.empty → FaultHeld s →
        s.followLink n g = violated (some n) a causes (s.setLane n linked)) ∧
      (y.startable = true → causes = CauseSet.empty →
        beyondUsers s.drive.facts (s.entry a.extent) a = true →
        s.followLink n g = laneHalts n linked .beyondMedia s) ∧
      (y.startable = true → causes = CauseSet.empty →
        beyondUsers s.drive.facts (s.entry a.extent) a = false →
        s.followLink n g = s.setLane n
          { linked with offset := y.start.toNat, remaining := y.count.toNat }) := by
  intro y a causes linked
  subst lane
  have follow : s.followLink n g = if (!y.startable) = true then (s.setLane n linked).haltLane true n .badDescriptor
      else if causes.any = true then
        (if (s.setLane n linked).overruns = true then violated (some n) a causes (s.setLane n linked)
        else (violated (some n) a causes (s.setLane n linked)).haltLane true n (.causes causes))
      else if beyondUsers s.drive.facts (s.entry a.extent) a = true then
        (s.setLane n linked).haltLane true n .beyondMedia
      else s.setLane n ((s.lane n).restartOn g y) := by
    rw [← State.recordViolation_eq]
    rfl
  rw [follow]
  refine ⟨fun bad => ?_, fun good some calm => ?_, fun good some held => ?_, fun good clean out => ?_,
    fun good clean inside => ?_⟩
  · rw [if_pos (by simp [bad]), State.haltLane_true _ _ _ _ h size]
  · have calm' : ¬ FaultHeld (s.setLane n linked) := calm
    rw [if_neg (by simp [good]), if_pos ((CauseSet.any_iff _).mpr some), if_neg (mt (State.overruns_iff _).mp calm'),
      violated_setLane _ _ _ _ _ _ calm, State.haltLane_true _ _ _ _ h]
    rw [violated_lanes _ _ _ _ calm, size]
  · have held' : FaultHeld (s.setLane n linked) := held
    rw [if_neg (by simp [good]), if_pos ((CauseSet.any_iff _).mpr some), if_pos ((State.overruns_iff _).mpr held')]
  · rw [if_neg (by simp [good]), if_neg (mt (CauseSet.any_iff _).mp (not_not_intro clean)), if_pos out,
      State.haltLane_true _ _ _ _ h size]
  · rw [if_neg (by simp [good]), if_neg (mt (CauseSet.any_iff _).mp (not_not_intro clean)), if_neg (by simp [inside])]
    rfl

/-! ### START LANE (R139, R140) -/

theorem State.laneStartable_iff (s : State) (n : Nat) : s.laneStartable n = true ↔
    ((s.lane n).state = .idle ∨ (s.lane n).state = .halted) ∧ (s.lane n).stops = [] ∧
      ∀ it ∈ s.queue, it.route ≠ .lane n := by
  have stands : (!(s.lane n).state.runs) = true ↔ (s.lane n).state = .idle ∨ (s.lane n).state = .halted := by
    cases (s.lane n).state <;> simp [LaneState.runs]
  simp only [State.laneStartable, Bool.and_eq_true, decide_eq_true_eq, stands, s.queuedItems_eq_zero]
  tauto

theorem State.startLaneOrder_eq (c tag n g : Byte) (s : State) :
    s.startLaneOrder c tag [n, g] = s.startLaneChecked c tag n.toNat g.toNat := by
  rw [State.startLaneOrder, State.handOver_passes]
  case len => rfl
  case cl => nofun
  simp only [field_one, field_second]

/-- The checks past the drive state: the write-protect tab, the lane, the descriptor, its footprint. -/
theorem State.startLaneChecked_ready (c tag : Byte) (n g : Nat) (s : State) (numbers : n < 4 ∧ g < 32)
    (ready : s.drive.state = .ready) :
    s.startLaneChecked c tag n g =
      if s.drive.tab = some true then reports s [.answer Kind.startLane tag .writeProtected .none]
      else if (!s.laneStartable n) = true then reports s [.answer Kind.startLane tag .laneBusy .none]
      else if (!(s.descriptorAt g).startable) = true then reports s [.answer Kind.startLane tag .badDescriptor .none]
      else
        let a := (s.descriptorAt g).footprint (classOf c) n
        if (s.causes a).any = true then s.refuseViolation Kind.startLane tag a (s.causes a)
        else if beyondUsers s.drive.facts (s.entry a.extent) a = true then
          reports s [.answer Kind.startLane tag .beyondMedia .none]
        else s.laneStarts tag n g (classOf c) := by
  unfold State.startLaneChecked
  rw [driveRefusal_ready _ |>.mpr ready]
  simp only [s.protectedTab_iff]
  exact if_neg (not_not_intro numbers)

/-- The checks up to the drive state. -/
theorem State.startLaneChecked_refused (c tag : Byte) (n g : Nat) (s : State) :
    (¬ (n < 4 ∧ g < 32) →
      s.startLaneChecked c tag n g = reports s [.answer Kind.startLane tag .badCount .none]) ∧
    ∀ code, n < 4 ∧ g < 32 → driveRefusal s.drive.state = some code →
      s.startLaneChecked c tag n g = reports s [.answer Kind.startLane tag code .none] := by
  refine ⟨fun outside => if_pos outside, fun code numbers refused => ?_⟩
  refine (if_neg (not_not_intro numbers)).trans ?_
  rw [refused]
  rfl

/-! ### STOP LANE (R146) -/

theorem State.stopLaneOrder_eq (c tag n : Byte) (s : State) :
    s.stopLaneOrder c tag [n] =
      if ¬ n.toNat < 4 then reports s [.answer Kind.stopLane tag .badCount .none]
      else match (s.lane n.toNat).state with
        | .active => s.stopActive n.toNat tag
        | .draining => s.joinStop n.toNat tag
        | .halted => if (s.lane n.toNat).stops = [] then s.stopAtOnce n.toNat tag else s.joinStop n.toNat tag
        | .idle => s.stopAtOnce n.toNat tag := by
  rw [State.stopLaneOrder, State.handOver_passes]
  case len => rfl
  case cl => nofun
  simp only [field_one]
  rfl

theorem State.stopAtOnce_eq (n : Nat) (tag : Byte) (s : State) (inside : n < s.lanes.length) :
    s.stopAtOnce n tag = reports (s.setLane n { s.lane n with state := .idle, halt := none })
      [.answer Kind.stopLane tag .ok (.stopped n (s.lane n).descriptor (s.lane n).completed)] := by
  unfold State.stopAtOnce State.stopAnswer
  dsimp only
  rw [s.setLane_lane n _ inside]
  rfl

theorem WorkItem.isWaitingOf_iff (n : Nat) (it : WorkItem) :
    it.isWaitingOf n = true ↔ it.route = .lane n ∧ it.state = .waiting := by
  simp [WorkItem.isWaitingOf, and_comm]

/-- With its WAITING items gone a lane has an item left exactly when one of its items was not WAITING. -/
theorem withoutWaiting_routes (n : Nat) (h : n < 4) (s : State) :
    (∀ it ∈ (withoutWaiting (fun m => m == n) s).queue, it.route ≠ .lane n) ↔
      ∀ it ∈ s.queue, it.route = .lane n → it.state = .waiting := by
  rw [← s.removeWaiting_eq n h]
  have left (it : WorkItem) : it ∈ (s.removeWaiting n).queue ↔ it ∈ s.queue ∧ it.isWaitingOf n = false := by
    simp [State.removeWaiting]
  simp only [left, ← Bool.not_eq_true, WorkItem.isWaitingOf_iff]
  constructor
  · intro none it member route
    by_contra moving
    exact none it ⟨member, fun waiting => moving waiting.2⟩ route
  · rintro all it ⟨member, stays⟩ route
    exact stays ⟨route, all it member route⟩

/-- An ACTIVE lane loses its WAITING items and its pending post; what it does then hangs on the items left. -/
theorem State.stopActive_eq (n : Nat) (tag : Byte) (s : State) (h : n < 4) (inside : n < s.lanes.length) :
    let left := withoutWaiting (fun m => m == n) s
    let l : Lane := { s.lane n with pendingPost := none }
    ((∀ it ∈ s.queue, it.route = .lane n → it.state = .waiting) →
      s.stopActive n tag = (reports (left.setLane n { l with state := .idle, halt := none })
        [.answer Kind.stopLane tag .ok (.stopped n l.descriptor l.completed)]).settle) ∧
    (¬ (∀ it ∈ s.queue, it.route = .lane n → it.state = .waiting) →
      s.stopActive n tag =
        (left.setLane n { l with state := .draining, stops := l.stops ++ [tag] }).settle) := by
  intro left l
  have gone : s.removeWaiting n = left := s.removeWaiting_eq n h
  have lane : (left.setLane n l).lane n = l := left.setLane_lane n l inside
  have inside' : n < (left.setLane n l).lanes.length := (left.setLane_length n l).symm ▸ inside
  have none : (left.setLane n l).queuedItems n = 0 ↔ ∀ it ∈ s.queue, it.route = .lane n → it.state = .waiting :=
    (State.queuedItems_eq_zero _ n).trans (withoutWaiting_routes n h s)
  unfold State.stopActive
  dsimp only
  rw [gone]
  refine ⟨fun all => congrArg State.settle ((if_pos (none.mpr all)).trans ?_),
    fun some => congrArg State.settle ((if_neg (mt none.mp some)).trans ?_)⟩
  · exact (State.stopAtOnce_eq n tag (left.setLane n l) inside').trans (by rw [lane, State.setLane_setLane])
  · change ((left.setLane n l).setLane n { (left.setLane n l).lane n with state := .draining }).joinStop n tag = _
    rw [lane, State.setLane_setLane, State.joinStop, State.setLane_lane left n _ inside, State.setLane_setLane]

/-! ### Posting (R83, R84, R141, R142) -/

theorem State.mayPost_iff (s : State) (n : Nat) : s.mayPost n = true ↔
    n < 4 ∧ (s.lane n).state = .active ∧ (s.queue.filter fun it => decide (it.route = .lane n)).length < 2 ∧
      (s.lane n).pendingPost = none ∧ 0 < (s.lane n).remaining ∧
      (s.descriptorAt (s.lane n).descriptor).mode ≠ .none := by
  simp only [State.mayPost, Bool.and_eq_true, decide_eq_true_eq, Option.isNone_iff_eq_none, and_assoc]
  rfl

theorem pieceCount_eq (d : Descriptor) (l : Lane) (patterned : d.mode ≠ .none) :
    pieceCount d l = if d.mode = .band ∨ d.mode = .ring then d.band.toNat else min 256 l.remaining := by
  unfold pieceCount
  cases mode : d.mode with
  | none => exact absurd mode patterned
  | run => rfl
  | band => rfl
  | ring => rfl

theorem Lane.advance_eq (d : Descriptor) (count : Nat) (l : Lane) :
    l.advance d count = { l with
      offset := l.offset + (if d.mode = .band ∨ d.mode = .ring then d.stride.toNat else count)
      remaining := l.remaining - (if d.mode = .band ∨ d.mode = .ring then 1 else count)
      nextIndex := (l.nextIndex + count) % 65536 } := by
  simp only [Lane.advance, PatternMode.banded_iff, Config.indexModulus]

/-- The access of the lane's next piece. -/
def State.pieceAccess (s : State) (n : Nat) : Access :=
  let l := s.lane n
  let d := s.laneDescriptor n
  { kind := .lanePost, cls := l.cls, route := .lane n, extent := d.extent.toNat, first := l.offset
    last := l.offset + pieceCount d l - 1 }

theorem State.postLane_eq (n : Nat) (s : State) (may : s.mayPost n = true) :
    let a := s.pieceAccess n
    s.postLane n =
      if (s.causes a).any = true then
        (if s.overruns = true then violated (some n) a (s.causes a) s
        else (violated (some n) a (s.causes a) s).haltLane true n (.causes (s.causes a))).settle
      else if beyondUsers s.drive.facts (s.entry a.extent) a = true then (s.haltLane true n .beyondMedia).settle
      else (s.edgeCheck a).postPiece n
        ⟨a.extent, (s.lane n).offset, pieceCount (s.laneDescriptor n) (s.lane n), (s.lane n).nextIndex⟩ := by
  intro a
  rw [← State.recordViolation_eq]
  exact if_pos may

theorem State.edgeCheck_descriptors (a : Access) (s : State) : (s.edgeCheck a).descriptors = s.descriptors :=
  (s.edgeCheck_same a).2.2.2.2.2.2.2.2.1 rfl

/-- A clean piece takes a place when one is free and no lane waits, and is the lane's pending post otherwise. -/
theorem State.postPiece_eq (n : Nat) (p : Piece) (s : State) (inside : n < s.lanes.length)
    (own : (s.lane n).pendingPost = none) :
    let moved := (s.lane n).advance (s.laneDescriptor n) p.count
    (8 ≤ s.queue.length ∨ (∃ m < 4, (s.lane m).pendingPost ≠ none) →
      s.postPiece n p = s.setLane n { moved with pendingPost := some p }) ∧
    (¬ (8 ≤ s.queue.length ∨ ∃ m < 4, (s.lane m).pendingPost ≠ none) →
      s.postPiece n p = (joins (pieceItem s s.nextId n p) (s.setLane n moved)).settle) := by
  intro moved
  have posts (m : Nat) : ((s.setLane n moved).lane m).pendingPost = (s.lane m).pendingPost := by
    rw [State.lane_setLane]
    split
    · next same =>
      rw [same.1, own]
      exact own
    · rfl
  have free : (s.setLane n moved).placeFree = true ∧ (s.setLane n moved).anyPending = false ↔
      ¬ (8 ≤ s.queue.length ∨ ∃ m < 4, (s.lane m).pendingPost ≠ none) := by
    rw [← Bool.not_eq_true, State.anyPending_iff, State.placeFree_iff, not_or, Nat.not_le]
    simp only [posts]
    rfl
  constructor
  · intro waiting
    refine (if_neg (mt free.mp (not_not_intro waiting))).trans ?_
    exact (congrArg (fun l : Lane => (s.setLane n moved).setLane n { l with pendingPost := some p })
      (s.setLane_lane n moved inside)).trans (s.setLane_setLane n _ _)
  · exact fun place => if_pos (free.mpr place)

/-! ### A free place (R84) -/

theorem State.lowestPending_spec (s : State) (n : Nat) (p : Piece) (h : n < 4) (post : (s.lane n).pendingPost = some p)
    (lower : ∀ m < n, (s.lane m).pendingPost = none) : s.lowestPending laneNumbers = some (n, p) := by
  rw [State.laneNumbers_eq]
  match n, h with
  | 0, _ => simp [State.lowestPending, post]
  | 1, _ => simp [State.lowestPending, post, lower 0 (by omega)]
  | 2, _ => simp [State.lowestPending, post, lower 0 (by omega), lower 1 (by omega)]
  | 3, _ => simp [State.lowestPending, post, lower 0 (by omega), lower 1 (by omega), lower 2 (by omega)]

/-! ### LOAD DESCRIPTORS (R135) -/

theorem State.descriptorHeld_iff (s : State) (g : Nat) : s.descriptorHeld g = true ↔ DescriptorHeld s g := by
  have held (l : LaneState) : l ≠ .idle ↔ l = .active ∨ l = .draining ∨ l = .halted := by cases l <;> simp
  simp [State.descriptorHeld, DescriptorHeld, ← held]

theorem State.loadDescriptorsOrder_eq (c tag g k : Byte) (ds : List Byte) (s : State)
    (service : c.getLsbD 0 = true) (len : ds.length = 12 * k.toNat) :
    s.loadDescriptorsOrder c tag (g :: k :: ds) =
      s.loadDescriptors tag g.toNat ((chunks 12 k.toNat ds).map descriptorOfBytes) := by
  rw [State.loadDescriptorsOrder, State.handOver_passes]
  case len => exact loadLengthOk_of_length 12 g k ds len
  case cl => exact fun _ => service
  simp only [field_one, field_second, List.drop_succ_cons, List.drop_zero]

theorem State.loadDescriptors_badCount (tag : Byte) (g : Nat) (ds : List Descriptor) (s : State)
    (outside : ¬ (1 ≤ ds.length ∧ ds.length ≤ 32 ∧ g + ds.length ≤ 32)) :
    s.loadDescriptors tag g ds = reports s [.answer Kind.loadDescriptors tag .badCount .none] :=
  if_neg (mt (rangeOk_iff _ _ _).mp outside)

theorem State.loadDescriptors_inside (tag : Byte) (g : Nat) (ds : List Descriptor) (s : State)
    (inside : 1 ≤ ds.length ∧ ds.length ≤ 32 ∧ g + ds.length ≤ 32) :
    s.loadDescriptors tag g ds =
      let applied := applyEntries s.descriptorHeld g ds s.descriptors
      reports (s.setDescriptors applied.1)
        [.answer Kind.loadDescriptors tag (if applied.2 = ds.length then .ok else .inUse) (.count applied.2)] :=
  if_pos ((rangeOk_iff _ _ _).mpr inside)

end Sys2Proof.Machine

section

open Sys2Proof Sys2Proof.Machine Sys2Proof.Safety

/-- Settles O46. -/
theorem theLaneEngineTakesTheResultOfItsItem : Obligations.TheLaneEngineTakesTheResultOfItsItem := by
  unfold Obligations.TheLaneEngineTakesTheResultOfItsItem
  intro s loss r h size n lane d l result last told
  have inside : n < s.lanes.length := size ▸ h
  have result_eq := s.laneResult_eq l loss r inside rfl
  have state : l.state = lane.state := rfl
  have active (h : lane.state = .active) : result = if r.outcome = .ok then
      (if last then (s.setLane n l).completeDescriptor n else s.setLane n l)
      else (s.setLane n l).haltLane (!loss) n (.outcome r.outcome r.cause) := by
    refine result_eq.trans ?_
    rw [state, h]
  have complete (h : lane.state = .active) (ok : r.outcome = .ok) (finished : last) :
      result = (s.setLane n l).completeDescriptor n := (active h).trans ((if_pos ok).trans (if_pos finished))
  have done := s.completeDescriptor_eq n l inside
  refine ⟨?_, ?_, fun act failed => ?_, fun act ok more => ?_,
    fun act ok finished ring => ?_, fun act ok finished line alone => ?_, fun act ok finished line linked => ?_⟩
  · rintro (idle | ⟨halted, none⟩)
    · exact result_eq.trans (by rw [state, idle])
    · exact result_eq.trans (by rw [state, halted]; exact if_pos none)
  · rintro (draining | ⟨halted, some⟩)
    · exact result_eq.trans (by rw [state, draining]; exact s.endDrain_setLane n l inside)
    · exact result_eq.trans (by rw [state, halted]; exact (if_neg some).trans (s.endDrain_setLane n l inside))
  · intro cause
    refine ⟨fun stays => ?_, fun lost => ?_⟩
    · rw [active act, if_neg failed, stays]
      exact s.haltLane_true n l cause h size
    · rw [active act, if_neg failed, lost]
      exact s.haltLane_false n l cause inside
  · rw [active act, if_pos ok, if_neg more]
  · exact (complete act ok finished).trans (done.trans (if_pos ring))
  · exact (complete act ok finished).trans (done.trans ((if_neg line).trans (if_neg (Nat.not_lt.mpr alone))))
  · have follows : result = told.followLink n d.link.toNat :=
      (complete act ok finished).trans (done.trans ((if_neg line).trans (if_pos linked)))
    rw [follows]
    have set := s.setLane_lane n l inside
    have size' : (s.setLane n l).lanes.length = 4 := (s.setLane_length n l).trans size
    have same : told = s.setLane n l ∨
        told = reports (s.setLane n l) [.notice (.laneDone n l.descriptor l.completed)] := by
      by_cases notify : d.notify = 1#8
      · exact .inr (if_pos notify)
      · exact .inl (if_neg notify)
    clear_value told
    rcases same with rfl | rfl
    · exact State.followLink_eq n d.link.toNat l (s.setLane n l) h size' set
    · exact State.followLink_eq n d.link.toNat l
        (reports (s.setLane n l) [.notice (.laneDone n l.descriptor l.completed)]) h size' set

/-- Settles O42: `startLaneChecked_ready` gives the checks past the drive state in order. -/
theorem startLaneChecksAndStarts : Obligations.StartLaneChecksAndStarts := by
  unfold Obligations.StartLaneChecksAndStarts
  intro c tag n g s free refused run lane d cls a causes numbers unbound
  have runs : run = .next ((taken s).startLaneChecked c tag n.toNat g.toNat) :=
    (s.takeFrame_free _ free).trans (congrArg _ ((taken s).startLaneOrder_eq c tag n g))
  obtain ⟨outside, unready⟩ := State.startLaneChecked_refused c tag n.toNat g.toNat (taken s)
  have checked (num : numbers) (ready : s.drive.state = .ready) :=
    (runs.trans (congrArg Host.Outcome.next (State.startLaneChecked_ready c tag n.toNat g.toNat (taken s) num ready)))
  have startable : (taken s).laneStartable n.toNat = true ↔ unbound := (taken s).laneStartable_iff n.toNat
  have tabbed (num : numbers) (ready : s.drive.state = .ready) (tab : s.drive.tab ≠ some true) :=
    (checked num ready).trans (congrArg Host.Outcome.next (if_neg tab))
  have unbusy (num : numbers) (ready : s.drive.state = .ready) (tab : s.drive.tab ≠ some true) (un : unbound) :=
    (tabbed num ready tab).trans (congrArg Host.Outcome.next (if_neg (by rw [startable.mpr un]; decide)))
  have good (num : numbers) (ready : s.drive.state = .ready) (tab : s.drive.tab ≠ some true) (un : unbound)
      (ok : d.startable = true) :=
    (unbusy num ready tab un).trans (congrArg Host.Outcome.next
      (if_neg (fun bad : (!d.startable) = true => by rw [ok] at bad; exact Bool.noConfusion bad)))
  have clean (num : numbers) (ready : s.drive.state = .ready) (tab : s.drive.tab ≠ some true) (un : unbound)
      (ok : d.startable = true) (none : causes = CauseSet.empty) :=
    (good num ready tab un ok).trans (congrArg Host.Outcome.next
      (if_neg (mt (CauseSet.any_iff causes).mp (not_not_intro none))))
  refine ⟨fun no => runs.trans (congrArg _ (outside no)), fun num unloading => ?_, fun num ready unloading => ?_,
    fun num ready tab => (checked num ready).trans (congrArg Host.Outcome.next (if_pos tab)),
    fun num ready tab busy => ?_, fun num ready tab un bad => ?_,
    fun num ready tab un ok some => ?_, fun num ready tab un ok none out => ?_,
    fun num ready tab un ok none inside => ?_⟩
  · exact runs.trans (congrArg _ (unready .unloading num (congrArg driveRefusal unloading)))
  · exact runs.trans (congrArg _ (unready .noMedia num (driveRefusal_noMedia _ ready unloading)))
  · exact (tabbed num ready tab).trans (congrArg Host.Outcome.next
      (if_pos (by rw [Bool.eq_false_iff.mpr (mt startable.mp busy)]; rfl)))
  · exact (unbusy num ready tab un).trans (congrArg Host.Outcome.next
      (if_pos (show (!d.startable) = true by rw [bad]; rfl)))
  · intro answered
    have violates := (good num ready tab un ok).trans (congrArg Host.Outcome.next
      (if_pos ((CauseSet.any_iff causes).mpr some)))
    refine ⟨fun calm => violates.trans (congrArg _ (State.refuseViolation_calm _ _ _ _ (taken s) calm)),
      fun held => ⟨answered.settle, violates.trans (congrArg _ ?_), answered.settle_settled⟩⟩
    exact State.refuseViolation_held _ _ _ _ (taken s) held
  · exact (clean num ready tab un ok none).trans (congrArg Host.Outcome.next (if_pos out))
  · refine (clean num ready tab un ok none).trans (congrArg Host.Outcome.next
      ((if_neg (Bool.eq_false_iff.mp inside)).trans ?_))
    unfold State.laneStarts
    rw [show ((taken s).lane n.toNat).stops = [] from un.2.1]
    rfl

/-- Settles O43: whether an item of the lane is left, `withoutWaiting_routes` reads off the queue as it was. -/
theorem stopLaneStopsOrDrains : Obligations.StopLaneStopsOrDrains := by
  unfold Obligations.StopLaneStopsOrDrains
  intro c tag n s free run lane answer
  have runs : run = .next ((taken s).stopLaneOrder c tag [n]) := s.takeFrame_free _ free
  rw [State.stopLaneOrder_eq] at runs
  refine ⟨fun no => runs.trans (congrArg Host.Outcome.next (if_pos no)), fun h size => ?_⟩
  have inside : n.toNat < (taken s).lanes.length := size ▸ h
  replace runs := runs.trans (congrArg Host.Outcome.next (if_neg (not_not_intro h)))
  have at_once := State.stopAtOnce_eq n.toNat tag (taken s) inside
  have state : ((taken s).lane n.toNat).state = lane.state := rfl
  rw [state] at runs
  refine ⟨?_, ?_, fun active => ?_⟩
  · rintro (idle | ⟨halted, none⟩)
    · rw [idle] at runs
      exact runs.trans (congrArg _ at_once)
    · rw [halted] at runs
      exact runs.trans (congrArg _ ((if_pos none).trans at_once))
  · rintro (draining | ⟨halted, some⟩)
    · rw [draining] at runs
      exact runs
    · rw [halted] at runs
      exact runs.trans (congrArg _ (if_neg some))
  · intro left
    have stops := State.stopActive_eq n.toNat tag (taken s) h inside
    rw [active] at runs
    replace runs : run = .next ((taken s).stopActive n.toNat tag) := runs
    refine ⟨_, runs, fun all => ?_, fun ⟨it, member, route, moving⟩ => ?_⟩
    · rw [stops.1 all]
      exact State.settle_settled _
    · rw [stops.2 fun all => moving (all it member route)]
      exact State.settle_settled _

/-- Settles O44. -/
theorem lanePostsItsNextPiece : Obligations.LanePostsItsNextPiece := by
  unfold Obligations.LanePostsItsNextPiece
  intro n s free size lane d may banded count a causes beyond moved waiting edge
  have runs : exec (.lanePost n) s = .next (s.postLane n) := s.unlessHeld_free _ free
  have counts (m : may) : pieceCount (s.laneDescriptor n) (s.lane n) = count :=
    pieceCount_eq d lane m.2.2.2.2.2
  have access (m : may) : s.pieceAccess n = a := by
    unfold State.pieceAccess
    dsimp only
    rw [counts m]
    rfl
  have posts (m : may) := State.postLane_eq n s (s.mayPost_iff n |>.mpr m)
  have edges (m : may) (none : causes = CauseSet.empty) (below : beyond = false) :
      s.postLane n = edge.postPiece n ⟨d.extent.toNat, lane.offset, count, lane.nextIndex⟩ := by
    rw [posts m, counts m, access m]
    exact (if_neg (mt (CauseSet.any_iff causes).mp (not_not_intro none))).trans
      (if_neg (Bool.eq_false_iff.mp below))
  have violates (m : may) (some : causes ≠ CauseSet.empty) : s.postLane n =
      (if s.overruns = true then violated (.some n) a causes s
      else (violated (.some n) a causes s).haltLane true n (.causes causes)).settle := by
    rw [posts m, access m]
    exact if_pos ((CauseSet.any_iff causes).mpr some)
  have edgeLanes : edge.lanes = s.lanes := (s.edgeCheck_same a).2.2.2.2.2.2.2.2.2.1 rfl
  have edgeQueue := State.edgeCheck_queue a s
  have edgeLane (m : Nat) : edge.lane m = s.lane m := State.edgeCheck_lane a s m
  have advances : (edge.lane n).advance (edge.laneDescriptor n) count = moved := by
    rw [State.laneDescriptor, edgeLane, State.descriptorAt, State.edgeCheck_descriptors, Lane.advance_eq]
    rfl
  have posted (m : may) := State.postPiece_eq n ⟨d.extent.toNat, lane.offset, count, lane.nextIndex⟩ edge
    (by rw [edgeLanes, size]; exact m.1) (by rw [edgeLane]; exact m.2.2.2.1)
  have waits : (8 ≤ edge.queue.length ∨ ∃ m < 4, (edge.lane m).pendingPost ≠ none) ↔ waiting := by
    rw [show edge.queue = s.queue from edgeQueue.1]
    simp only [edgeLane]
    rfl
  rw [runs]
  refine ⟨fun no => congrArg _ (if_neg (mt (s.mayPost_iff n).mp no)), fun m none below wait => ?_,
    fun m none below place => ?_, fun m none out => ?_, fun m some calm => ?_, fun m some held => ?_⟩
  · rw [edges m none below, (posted m).1 (waits.mpr wait), advances]
    unfold State.setLane
    rw [edgeLanes]
  · intro it
    refine ⟨_, rfl, ?_⟩
    rw [edges m none below, (posted m).2 (mt waits.mp place), advances]
    have item : pieceItem edge edge.nextId n ⟨d.extent.toNat, lane.offset, count, lane.nextIndex⟩ = it := by
      rw [edgeQueue.2]
      unfold pieceItem
      rw [State.edgeCheck_profile]
      rfl
    rw [item]
    unfold State.setLane
    rw [edgeLanes]
    exact State.settle_settled _
  · refine ⟨_, rfl, ?_⟩
    have halts : s.postLane n = (s.haltLane true n .beyondMedia).settle := by
      rw [posts m, access m]
      exact (if_neg (mt (CauseSet.any_iff causes).mp (not_not_intro none))).trans (if_pos out)
    rw [halts, s.haltLane_eq n _ m.1 size]
    exact State.settle_settled _
  · refine ⟨_, rfl, ?_⟩
    have lanes := violated_lanes (.some n) a causes s calm
    rw [violates m some, if_neg (mt s.overruns_iff.mp calm), State.haltLane_eq _ n _ m.1 (by rw [lanes, size]),
      State.lane, lanes]
    exact State.settle_settled _
  · refine ⟨_, rfl, ?_⟩
    rw [violates m some, if_pos (s.overruns_iff.mpr held)]
    exact State.settle_settled _

/-- Settles O45. -/
theorem aFreePlaceGoesToTheLowestPendingLane : Obligations.AFreePlaceGoesToTheLowestPendingLane := by
  intro s free size
  have runs : exec .pendingPostPlaced s =
      .next (if s.placeFree ∧ s.anyPending = true then s.placeOnePending.walk.resumeFetch else s) :=
    s.unlessHeld_free _ free
  rw [runs]
  refine ⟨fun none => congrArg _ (if_neg ?_), fun n p h place post lower => ⟨_, rfl, ?_⟩⟩
  · rintro ⟨place, pending⟩
    obtain ⟨n, h, post⟩ := s.anyPending_iff.mp pending
    have room := s.placeFree_iff.mp place
    rcases none with full | none
    · omega
    · exact post (none n h)
  · have room := s.placeFree_iff.mpr place
    have pending : s.anyPending = true := s.anyPending_iff.mpr ⟨n, h, by rw [post]; exact Option.some_ne_none p⟩
    rw [if_pos ⟨room, pending⟩, State.placeOnePending, if_pos room, s.lowestPending_spec n p h post lower]
    exact State.walk_resume_walked _

/-- Settles O47: `j` and the table are what `applyEntries` answers for the supplied descriptors. -/
theorem loadDescriptorsStopsAtAHeldDescriptor : Obligations.LoadDescriptorsStopsAtAHeldDescriptor := by
  intro c tag g k ds s free service len size
  let supplied := (chunks 12 k.toNat ds).map descriptorOfBytes
  have count : supplied.length = k.toNat := by simp [supplied]
  have runs : exec (.loadDescriptors c tag (g :: k :: ds)) s =
      .next ((taken s).loadDescriptors tag g.toNat supplied) :=
    (s.takeFrame_free _ free).trans (congrArg _ ((taken s).loadDescriptorsOrder_eq c tag g k ds service len))
  rw [runs, ← count]
  refine ⟨fun outside => congrArg _ (State.loadDescriptors_badCount _ _ _ _ outside), fun inside => ?_⟩
  let applied := applyEntries s.descriptorHeld g.toNat supplied s.descriptors
  have bounded : applied.2 ≤ supplied.length := applyEntries_count_le _ _ _ _
  have fit : g.toNat + supplied.length ≤ s.descriptors.length := size ▸ inside.2.2
  refine ⟨applied.2, applied.1, bounded, fun i below => ?_, fun stopped => ?_,
    (applyEntries_length _ _ _ _).trans size, fun i below => ?_, applyEntries_keeps _ _ _ _,
    congrArg _ (State.loadDescriptors_inside _ _ _ _ inside)⟩
  · exact fun held => Bool.false_ne_true ((applyEntries_free _ _ _ _ i below).symm.trans
      ((s.descriptorHeld_iff _).mpr held))
  · exact (s.descriptorHeld_iff _).mp (applyEntries_stops _ _ _ _ stopped)
  · have supply : supplied[i]? = some (descriptorOfBytes ((ds.drop (12 * i)).take 12)) := by
      rw [List.getElem?_map, chunks_getElem? 12 _ ds i (count ▸ Nat.lt_of_lt_of_le below bounded)]
      rfl
    exact (applyEntries_applied _ _ _ _ fit i below).trans supply

end

end

section
/-! The loss of the cartridge, and RESTART (O39, O40). -/
set_option Elab.async false

namespace Sys2Proof.Machine
open Sys2Proof.Safety

/-! ### One item ends MEDIA_GONE (R93) -/

/-- The item leaves, its slots are freed, the lanes are `after.2` and the frames `after.1` are produced. -/
def State.itemsLost (ids : List Nat) (after : List Frame × List Lane) (s : State) : State :=
  reports (((s.setQueue (s.queue.filter fun x => decide (x.id ∉ ids))).setSlots
    (freeItemSlots ids s.slots)).setLanes after.2) after.1

theorem State.unsentFrames_tag (s : State) (it : WorkItem) (t : Byte) (route : it.route = .tag t) :
    s.unsentFrames it = if it.kind = .fetch then
      (List.range' it.sent (it.blocksDone - it.sent)).map fun k => .data t k (slotData it.id k s.slots) else [] := by
  unfold State.unsentFrames
  rw [route]
  cases it.kind <;> rfl

theorem State.unsentFrames_lane (s : State) (it : WorkItem) (n : Nat) (route : it.route = .lane n) :
    s.unsentFrames it = [] := by
  unfold State.unsentFrames
  rw [route]
  cases it.kind <;> rfl

/-- The result of a lost lane item at its lane, and nothing where there is no such lane. -/
theorem State.laneResult_lost (s : State) (slots : List Slot) (it : WorkItem) (n replaced : Nat)
    (route : it.route = .lane n) :
    s.laneResult true ⟨n, .mediaGone, .none, it.blocksDone, replaced⟩ =
      reports (s.setLanes (lossOf slots s.lanes it).2) (lossOf slots s.lanes it).1 := by
  let l : Lane := { s.lane n with completed := (s.lane n).completed + it.blocksDone }
  have loss : lossOf slots s.lanes it =
      if l.state = .active then
        ([.notice (.laneHalted n l.descriptor (.outcome .mediaGone .none) l.completed)],
          s.lanes.set n { l with state := .halted, halt := some (.outcome .mediaGone .none), pendingPost := none })
      else if l.state = .draining ∨ l.state = .halted ∧ l.stops ≠ [] then
        (l.stops.map fun tag => .answer 0x12#8 tag .ok (.stopped n l.descriptor l.completed),
          s.lanes.set n { l with state := .idle, halt := none, stops := [] })
      else ([], s.lanes.set n l) := by
    unfold lossOf
    rw [route]
    rfl
  have quiet : reports (s.setLanes (s.lanes.set n l)) [] = s.setLane n l :=
    congrArg (s.setLane n l).setOutbound (List.append_nil _)
  have passes (other : ¬ l.state = .active) (still : ¬ (l.state = .draining ∨ l.state = .halted ∧ l.stops ≠ [])) :
      reports (s.setLanes (lossOf slots s.lanes it).2) (lossOf slots s.lanes it).1 = s.setLane n l := by
    rw [loss, if_neg other, if_neg still]
    exact quiet
  have drains (other : ¬ l.state = .active) (stops : l.state = .draining ∨ l.state = .halted ∧ l.stops ≠ []) :
      reports (s.setLanes (lossOf slots s.lanes it).2) (lossOf slots s.lanes it).1 =
        reports (s.setLane n { l with state := .idle, halt := none, stops := [] })
          (l.stops.map fun tag => .answer 0x12#8 tag .ok (.stopped n l.descriptor l.completed)) := by
    rw [loss, if_neg other, if_pos stops]
    rfl
  by_cases inside : n < s.lanes.length
  · have result : s.laneResult true ⟨n, .mediaGone, .none, it.blocksDone, replaced⟩ = match l.state with
        | .active => (s.setLane n l).haltLane false n (.outcome .mediaGone .none)
        | .draining => (s.setLane n l).endDrain n
        | .halted => if l.stops = [] then s.setLane n l else (s.setLane n l).endDrain n
        | .idle => s.setLane n l :=
      (s.laneResult_eq l true ⟨n, .mediaGone, .none, it.blocksDone, replaced⟩ inside rfl).trans
        (by cases l.state <;> rfl)
    rw [result]
    cases state : l.state with
    | idle => exact (passes (by simp [state]) (by simp [state])).symm
    | active =>
      rw [loss, if_pos state]
      exact s.haltLane_false n l _ inside
    | draining =>
      rw [drains (by simp [state]) (.inl state)]
      exact s.endDrain_setLane n l inside
    | halted =>
      dsimp only
      by_cases stops : l.stops = []
      · rw [if_pos stops, passes (by simp [state]) (by simp [stops, state])]
      · rw [if_neg stops, drains (by simp [state]) (.inr ⟨state, stops⟩)]
        exact s.endDrain_setLane n l inside
  · have none : s.lane n = Lane.reset := by simp [State.lane, inside]
    have idle : l.state = .idle := congrArg Lane.state none
    have kept : (s.setLane n l).lane n = Lane.reset := by
      rw [State.lane_setLane, if_neg (fun h => inside h.2), none]
    rw [passes (by simp [idle]) (by simp [idle])]
    unfold State.laneResult
    dsimp only
    rw [show s.setLane n { s.lane n with completed := (s.lane n).completed + it.blocksDone } = s.setLane n l from rfl,
      kept]
    rfl

theorem State.loseItem_eq (s : State) (it : WorkItem) :
    s.loseItem it = s.itemsLost [it.id] (lossOf s.slots s.lanes it) := by
  have left : (fun x : WorkItem => decide (x.id ∉ [it.id])) = fun x => decide (x.id ≠ it.id) := by simp
  unfold State.loseItem State.finishItem State.itemsLost
  rw [left]
  cases route : it.route with
  | tag t =>
    rw [s.unsentFrames_tag it t route]
    unfold lossOf
    rw [route]
    exact congrArg (((s.setQueue (s.queue.filter fun x => decide (x.id ≠ it.id))).setSlots
      (freeItemSlots [it.id] s.slots)).setOutbound) (List.append_assoc _ _ [_])
  | lane n =>
    have quiet : s.produceAll [] = s := congrArg s.setOutbound (List.append_nil _)
    rw [s.unsentFrames_lane it n route, quiet]
    exact State.laneResult_lost (s.removeItem it.id) s.slots it n _ route

/-! ### All of them, in queue order -/

theorem slotData_freeItemSlots (ids : List Nat) (id k : Nat) (other : id ∉ ids) (sl : List Slot) :
    slotData id k (freeItemSlots ids sl) = slotData id k sl := by
  induction sl with
  | nil => rfl
  | cons x xs ih =>
    have tail : slotData id k (xs.map fun x => if x.heldBy ids then x.release else x) = slotData id k xs := ih
    simp only [freeItemSlots, List.map_cons, slotData, tail]
    by_cases held : x.heldBy ids = true
    · have free : x.release.serves id k = false := by simp [Slot.serves, Slot.release]
      have mine : x.serves id k = false := by
        rw [Bool.eq_false_iff]
        intro serves
        have holder : x.holder = some id := by
          simp only [Slot.serves, decide_eq_true_eq] at serves
          tauto
        exact other (by simpa [Slot.heldBy, holder] using held)
      simp [held, free, mine]
    · simp [held]

theorem lossOf_freeItemSlots (ids : List Nat) (it : WorkItem) (other : it.id ∉ ids) (sl : List Slot)
    (lanes : List Lane) : lossOf (freeItemSlots ids sl) lanes it = lossOf sl lanes it := by
  unfold lossOf
  simp only [slotData_freeItemSlots ids it.id _ other]

theorem lossOfAll_freeItemSlots (ids : List Nat) (sl : List Slot) (q : List WorkItem)
    (other : ∀ it ∈ q, it.id ∉ ids) (lanes : List Lane) :
    lossOfAll (freeItemSlots ids sl) q lanes = lossOfAll sl q lanes := by
  induction q generalizing lanes with
  | nil => rfl
  | cons it rest ih =>
    simp only [lossOfAll, lossOf_freeItemSlots ids it (other it (.head _)),
      ih fun x member => other x (.tail _ member)]

theorem freeItemSlots_nil (sl : List Slot) : freeItemSlots [] sl = sl := by
  have none (x : Slot) : x.heldBy [] = false := by
    unfold Slot.heldBy
    cases x.holder <;> rfl
  simp [freeItemSlots, none]

theorem State.itemsLost_nil (s : State) : s.itemsLost [] ([], s.lanes) = s := by
  simp only [State.itemsLost, freeItemSlots_nil, List.not_mem_nil, not_false_eq_true, decide_true, List.filter_true]
  exact congrArg s.setOutbound (List.append_nil _)

theorem State.itemsLost_itemsLost (s : State) (ids ids' : List Nat) (fs fs' : List Frame) (ls ls' : List Lane) :
    (s.itemsLost ids (fs, ls)).itemsLost ids' (fs', ls') = s.itemsLost (ids ++ ids') (fs ++ fs', ls') := by
  have gone : (s.queue.filter fun x => decide (x.id ∉ ids)).filter (fun x => decide (x.id ∉ ids')) =
      s.queue.filter fun x => decide (x.id ∉ ids ++ ids') := by
    rw [List.filter_filter]
    refine List.filter_congr fun x _ => ?_
    simp [not_or, Bool.and_comm]
  unfold State.itemsLost
  rw [← gone, ← freeItemSlots_append, ← reports_reports]
  rfl

theorem State.foldl_loseItem (q : List WorkItem) (distinct : (q.map WorkItem.id).Nodup) (s : State) :
    q.foldl State.loseItem s = s.itemsLost (q.map WorkItem.id) (lossOfAll s.slots q s.lanes) := by
  induction q generalizing s with
  | nil => exact s.itemsLost_nil.symm
  | cons it rest ih =>
    obtain ⟨new, others⟩ := List.nodup_cons.mp distinct
    have other : ∀ x ∈ rest, x.id ∉ [it.id] := fun x member same =>
      new (List.mem_map.mpr ⟨x, member, List.mem_singleton.mp same⟩)
    have more := lossOfAll_freeItemSlots [it.id] s.slots rest other (lossOf s.slots s.lanes it).2
    rw [List.foldl_cons, s.loseItem_eq it, ih others]
    exact (congrArg ((s.itemsLost [it.id] (lossOf s.slots s.lanes it)).itemsLost (rest.map WorkItem.id)) more).trans
      (s.itemsLost_itemsLost [it.id] _ _ _ _ _)

/-! ### The lanes that are still ACTIVE (R149) -/

/-- Every ACTIVE lane halts as the ending of an item of its own would have halted it. -/
def State.lossHalted (s : State) : State :=
  reports (s.setLanes (s.lanes.mapIdx fun n l => if n < 4 ∧ l.state = .active then
    { l with state := .halted, halt := some (.outcome .mediaGone .none), pendingPost := none } else l))
    (lossHalts s.lanes)

/-- There is no item left that a halt could remove. -/
theorem State.lossHalts_eq (s : State) (empty : s.queue = []) :
    laneNumbers.foldl (fun s n =>
      if (s.lane n).state = .active then s.haltLane false n (.outcome .mediaGone .none) else s) s = s.lossHalted := by
  have nobody (t : State) (none : t.queue = []) (n : Nat) : t.removeWaiting n = t := by
    have slots : t.removeWaiting n = (t.setQueue []).setSlots (freeItemSlots [] t.slots) := by
      simp [State.removeWaiting, none]
    rw [slots, freeItemSlots_nil, ← none]
    rfl
  rw [State.foldl_laneNumbers_halts (fun l => decide (l = .active)) (fun _ => .outcome .mediaGone .none)
    (fun n => [.notice (.laneHalted n (s.lane n).descriptor (.outcome .mediaGone .none) (s.lane n).completed)]) s _
    fun t n _ lane queue => ?step]
  case step =>
    by_cases active : (t.lane n).state = .active
    · have none : t.queue = [] := List.subset_nil.mp (empty ▸ queue)
      have silent : t.haltSilently false n (.outcome .mediaGone .none) =
          t.haltSilently true n (.outcome .mediaGone .none) := by
        unfold State.haltSilently
        dsimp only
        rw [if_neg (by decide), if_pos rfl, nobody t none]
      have noted := t.haltLane_noted n (.outcome .mediaGone .none) (State.lt_of_active active)
      have same : t.haltLane false n (.outcome .mediaGone .none) =
          t.haltLane true n (.outcome .mediaGone .none) := by
        unfold State.haltLane
        rw [silent]
      simp only [active, if_true, decide_true]
      rw [same, noted, lane]
    · simp [active]
  have halted := s.lanesHalted_picked (fun l => decide (l = .active)) fun _ => .outcome .mediaGone .none
  have nothing : withoutWaiting (fun n => decide ((s.lane n).state = .active)) s = s := by
    unfold withoutWaiting
    rw [empty]
    simp only [List.filter_nil, List.map_nil, freeItemSlots_nil]
    rw [← empty]
    rfl
  simp only [decide_eq_true_eq] at halted
  rw [halted, nothing, ← List.map_eq_flatMap]
  rfl

/-- The part has no cartridge any more: the list is discarded, the spindle OFF, and the drive EMPTY (R158). -/
def State.cartridgeGone (s : State) : State :=
  (((((s.discardList true).spindleOff).notify (.mediaGone true)).answerUnloads).becomeEmpty)

theorem State.cartridgeGone_facts (s : State) :
    let t := s.cartridgeGone
    t.queue = s.queue ∧ t.outbound = s.outbound ++ (if s.list.loaded ∧ s.list.dirty then
        [.notice (.listLost true s.list.entries.length s.list.next)] else []) ++
      [.notice (.mediaGone true)] ++ s.drive.answers.map (fun tag => .answer 0x10#8 tag .ok .none) ∧
    t.lanes = s.lanes ∧ t.slots = s.slots ∧ t.list = ReplacementList.unloaded ∧ t.drive.state = .empty ∧
    t.drive.spindle = false ∧ t.drive.speed = .offSpeed ∧ t.drive.facts = none ∧ t.drive.tab = none ∧
    t.drive.mountFault = none ∧ t.drive.answers = [] ∧ t.head = { s.head with track := none, bias := .unset } ∧
    t.dataTimer = s.dataTimer ∧ t.port = s.port ++ (if s.drive.spindle then [.spindleOff] else []) ∧
    t.extents = s.extents ∧ t.fault = s.fault ∧ t.profile = s.profile ∧ t.descriptors = s.descriptors := by
  unfold State.cartridgeGone
  rw [State.discardList_eq, State.spindleOff_eq]
  exact ⟨rfl, rfl, rfl, rfl, rfl, rfl, rfl, rfl, rfl, rfl, rfl, rfl, rfl, rfl, rfl, rfl, rfl, rfl, rfl⟩

/-- The head is free and has lost sight of the cartridge, and every item has ended. -/
def State.allLost (items : List Frame × List Lane) (s : State) : State :=
  (s.cutHead.mapHead fun h => { h with track := none, bias := .unset }).itemsLost (s.queue.map WorkItem.id) items

theorem State.allLost_facts (items : List Frame × List Lane) (s : State) :
    let t := s.allLost items
    t.queue = [] ∧ t.outbound = s.outbound ++ items.1 ∧ t.lanes = items.2 ∧
    t.slots = freeItemSlots (s.queue.map WorkItem.id) s.slots ∧ t.head = Head.reset ∧ t.drive = s.drive ∧
    t.list = s.list ∧ t.dataTimer = none ∧ t.port = s.port ∧ t.extents = s.extents ∧ t.fault = s.fault ∧
    t.profile = s.profile ∧ t.descriptors = s.descriptors := by
  have gone : ∀ x ∈ s.queue, ∃ y ∈ s.queue, y.id = x.id := fun x member => ⟨x, member, rfl⟩
  simpa [State.allLost, State.itemsLost, reports, State.mapHead, State.cutHead, State.clearHead, Head.cleared,
    Head.reset] using gone

/-- A loss in a drive that is not EMPTY: the items, then the lanes, then the drive. -/
theorem State.loseCartridge_eq (s : State) (there : s.drive.state ≠ .empty)
    (distinct : (s.queue.map WorkItem.id).Nodup) :
    let items := lossOfAll s.slots s.queue s.lanes
    s.loseCartridge = (s.allLost items).lossHalted.cartridgeGone := by
  intro items
  let unseen : State := s.cutHead.mapHead fun h => { h with track := none, bias := .unset }
  have lose : s.queue.foldl State.loseItem unseen = s.allLost items := State.foldl_loseItem s.queue distinct unseen
  have facts := s.allLost_facts items
  unfold State.loseCartridge
  rw [if_neg there]
  dsimp only
  rw [show s.cutHead.mapHead (fun h => { h with track := none, bias := .unset }) = unseen from rfl,
    show unseen.queue = s.queue from rfl, lose, State.lossHalts_eq _ facts.1]
  rfl

/-! ### RESTART (R177) -/

/-- RESTART before it begins a control read again. -/
def State.workCleared (s : State) : State :=
  let s := s.cutHead.mapHead fun h => { h with bias := .unset }
  let s := (s.setQueue []).setSlots (s.slots.map Slot.release)
  let s := s.setLanes (s.lanes.map Lane.restarted)
  let s := s.setFault FaultRecord.empty
  let s := s.mapList fun l => { l with request := false }
  s.mapDrive fun d => { d with answers := [] }

theorem State.restartAll_eq (s : State) : s.restartAll = match s.head.task with
    | .controlRead r => s.workCleared.startControlRead r.again
    | _ => s.workCleared := by
  unfold State.restartAll State.workCleared
  dsimp only
  cases s.head.task <;> dsimp only

theorem State.workCleared_head (s : State) : s.workCleared.head =
    { Head.reset with track := if s.head.activity = .seeking then none else s.head.track } := rfl

theorem State.restartOrder_eq (c tag : Byte) (s : State) (service : c.getLsbD 0 = true) :
    s.restartOrder c tag [] = reports s.restartAll [.answer Kind.restart tag .ok .none] := by
  rw [State.restartOrder, State.handOver_passes]
  case len => rfl
  case cl => exact fun _ => service
  rfl

/-- All but the head and the work in progress is kept (R177). -/
theorem State.workCleared_facts (s : State) :
    let t := s.workCleared
    t.queue = [] ∧ t.slots = s.slots.map Slot.release ∧ t.lanes = s.lanes.map Lane.restarted ∧
    t.fault = FaultRecord.empty ∧ t.list = { s.list with request := false } ∧
    t.drive = { s.drive with answers := [] } ∧ t.profile = s.profile ∧ t.extents = s.extents ∧
    t.descriptors = s.descriptors ∧ t.dataTimer = none ∧ t.outbound = s.outbound ∧ t.port = s.port := by
  simp [State.workCleared, State.mapHead, State.mapList, State.mapDrive, State.cutHead, State.clearHead]

/-- A read pass asks for no bias and waits for no speed: it waits for its first sector or its seek. -/
theorem runBegun_read (r : Run) (later : List PassKind) (s : State) :
    (runBegun r .read later s).head.bias = s.head.bias ∧
    (s.head.track = some r.track → (runBegun r .read later s).head.activity = .awaitingStart ∧
      (runBegun r .read later s).port = s.port) ∧
    (s.head.track ≠ some r.track → (runBegun r .read later s).head.activity = .seeking ∧
      (runBegun r .read later s).head.seekIssues = 1 ∧ (runBegun r .read later s).head.seekTimer = some 0 ∧
      (runBegun r .read later s).port = s.port ++ [.seek r.track]) := by
  unfold runBegun
  dsimp only
  by_cases track : s.head.track = some r.track
  · rw [if_pos track]
    exact ⟨rfl, fun _ => ⟨rfl, rfl⟩, fun other => absurd track other⟩
  · rw [if_neg track]
    exact ⟨rfl, fun on => absurd on track, fun _ => ⟨rfl, rfl, rfl, rfl⟩⟩

/-- The control track of the record that a control read begun again reads (R117). -/
def ControlRead.againTrack : ControlRead → Nat
  | .format => 0
  | .listHeader => 1
  | .listEntries => 1
  | .extents => 2

theorem State.startControlRead_again (r : ControlRead) (s : State) :
    s.startControlRead r.again = readBegun r.again r.againTrack 0 1 [] s := by
  cases r with
  | format => exact s.startControlRead_first .format nofun
  | listHeader => exact s.startControlRead_first .listHeader nofun
  | listEntries => exact s.startControlRead_first .listHeader nofun
  | extents => exact s.startControlRead_first .extents nofun

/-- Beginning a control read changes the head and the actions at the port alone. -/
theorem readBegun_back (c : ControlRead) (track first n : Nat) (readIn : List (Nat × Block)) (s : State) :
    ((readBegun c track first n readIn s).setHead s.head).setPort s.port = s :=
  congrArg (State.setHead s.head) (runBegun_back _ .read [] (s.setHead { Head.reset with
    track := s.head.track, bias := s.head.bias, task := .controlRead c, readIn := readIn }))

/-- A control read's first sector: its task, its run and what the head then waits for. -/
theorem readBegun_first (c : ControlRead) (track : Nat) (s : State) :
    let t := readBegun c track 0 1 [] s
    t.head.bias = s.head.bias ∧ t.head.track = s.head.track ∧ t.head.task = .controlRead c ∧ t.head.pass = .read ∧
    t.head.later = [] ∧ t.head.run = some ⟨track, [⟨0, 0, .toAct, false, 0⟩], .control⟩ ∧ t.head.readIn = [] ∧
    t.head.wrongTracks = 0 ∧
    (t.head.track = some track → t.head.activity = .awaitingStart ∧ t.port = s.port) ∧
    (t.head.track ≠ some track → t.head.activity = .seeking ∧ t.head.seekIssues = 1 ∧
      t.head.seekTimer = some 0 ∧ t.port = s.port ++ [.seek track]) := by
  intro t
  let r : Run := ⟨track, (List.range 1).map fun i => ⟨0 + i, 0 + i, .toAct, false, 0⟩, .control⟩
  let u : State := s.setHead { Head.reset with
    track := s.head.track, bias := s.head.bias, task := .controlRead c, readIn := [] }
  obtain ⟨task, onTrack, run, pass, later, readIn, wrong⟩ := runBegun_head r .read [] u
  obtain ⟨bias, on, off⟩ := runBegun_read r [] u
  refine ⟨bias, onTrack, task, pass, later, run, readIn, wrong, fun h => on (onTrack.symm.trans h),
    fun h => off fun same => h (onTrack.trans same)⟩

end Sys2Proof.Machine

section

open Sys2Proof Sys2Proof.Machine Sys2Proof.Safety

/-- Settles O39: the items by `foldl_loseItem`, then the lanes by `lossHalts_eq`. -/
theorem aLostCartridgeEmptiesTheDrive : Obligations.ALostCartridgeEmptiesTheDrive := by
  unfold Obligations.ALostCartridgeEmptiesTheDrive
  intro s free
  have run : exec .cartridgeLost s = .next s.loseCartridge := s.unlessHeld_free _ free
  rw [run]
  refine ⟨fun empty => congrArg _ (if_pos empty), fun there distinct => ?_⟩
  intro items
  refine ⟨_, rfl, ?_⟩
  have all : s.loseCartridge = (s.allLost items).lossHalted.cartridgeGone := s.loseCartridge_eq there distinct
  have lost := s.allLost_facts items
  generalize s.allLost items = u at all lost
  obtain ⟨queue, outbound, lanes, slots, head, drive, list, timer, port, extents, fault, profile, descriptors⟩ := lost
  have sent : u.lossHalted.outbound = s.outbound ++ items.1 ++ lossHalts items.2 :=
    (congrArg (u.outbound ++ lossHalts ·) lanes).trans (congrArg (· ++ lossHalts items.2) outbound)
  obtain ⟨queue', outbound', lanes', slots', list', state, spindle, speed, none, tab, mountFault, answers, head',
    timer', port', extents', fault', profile', descriptors'⟩ := u.lossHalted.cartridgeGone_facts
  have list_eq : u.lossHalted.list = s.list := list
  have drive_eq : u.lossHalted.drive = s.drive := drive
  have head_eq : u.lossHalted.head = Head.reset := head
  rw [list_eq, drive_eq, sent] at outbound'
  rw [drive_eq] at port'
  rw [head_eq] at head'
  rw [all]
  exact ⟨queue'.trans queue, outbound', lanes'.trans (congrArg (List.mapIdx _) lanes),
    slots'.trans slots, list', state, spindle, speed, none, tab, mountFault, answers, head', timer'.trans timer,
    port'.trans (congrArg (· ++ _) port),
    extents'.trans extents, fault'.trans fault, profile'.trans profile, descriptors'.trans descriptors⟩

/-- Settles O40. -/
theorem restartClearsTheWorkInProgress : Obligations.RestartClearsTheWorkInProgress := by
  unfold Obligations.RestartClearsTheWorkInProgress
  intro c tag s free service
  have run : exec (.restart c tag []) s = .next (reports (taken s).restartAll [.answer Kind.restart tag .ok .none]) :=
    (s.takeFrame_free _ free).trans (congrArg _ ((taken s).restartOrder_eq c tag service))
  obtain ⟨queue, slots, lanes, fault, list, drive, profile, extents, descriptors, timer, outbound, port⟩ :=
    (taken s).workCleared_facts
  have head := (taken s).workCleared_head
  have all := (taken s).restartAll_eq
  generalize (taken s).workCleared = w at *
  generalize (taken s).restartAll = u at *
  have control (r : ControlRead) (reading : s.head.task = .controlRead r) :
      u = readBegun r.again r.againTrack 0 1 [] w := by
    rw [all, show (taken s).head.task = .controlRead r from reading]
    exact State.startControlRead_again r w
  have other (free : ∀ r, s.head.task ≠ .controlRead r) : u = w := by
    rw [all]
    split
    · next r reading => exact absurd reading (free r)
    · rfl
  have shape : (∃ (r : ControlRead) (track : Nat), u = readBegun r track 0 1 [] w) ∨ u = w := by
    by_cases reading : ∃ r, s.head.task = .controlRead r
    · exact .inl ⟨_, _, control _ reading.choose_spec⟩
    · exact .inr (other fun r task => reading ⟨r, task⟩)
  have same {α : Type} (f : State → α) (x : α) (h : f w = x) : f ((u.setHead w.head).setPort w.port) = x := by
    have back : (u.setHead w.head).setPort w.port = w := by
      rcases shape with ⟨r, track, begun⟩ | calm
      · rw [begun]
        exact readBegun_back _ _ _ _ _ w
      · rw [calm]
        rfl
    rw [back]
    exact h
  have heads : u.head.bias = w.head.bias ∧ u.head.track = w.head.track := by
    rcases shape with ⟨r, track, begun⟩ | calm
    · obtain ⟨bias, track, _⟩ := readBegun_first r track w
      exact begun ▸ ⟨bias, track⟩
    · exact calm ▸ ⟨rfl, rfl⟩
  have slots_eq : u.slots = s.slots.map Slot.release := same State.slots _ slots
  refine ⟨_, run, same State.queue _ queue, ?_, fun x member => ?_, same State.lanes _ lanes, same State.fault _ fault,
    same State.list _ list, same State.drive _ drive, same State.profile _ profile, same State.extents _ extents,
    same State.descriptors _ descriptors, same State.dataTimer _ timer, heads.1.trans (congrArg Head.bias head),
    congrArg (· ++ _) (same State.outbound _ outbound), heads.2.trans (congrArg Head.track head), fun r reading => ?_,
    fun free => ?_⟩
  · exact (congrArg List.length slots_eq).trans (List.length_map _)
  · obtain ⟨y, _, rfl⟩ := List.mem_map.mp (slots_eq ▸ member : x ∈ s.slots.map Slot.release)
    exact ⟨rfl, rfl⟩
  · intro again track
    obtain ⟨_, _, task, pass, later, run, readIn, wrong, on, off⟩ :=
      readBegun_first r.again r.againTrack w
    rw [← control r reading, port] at on off
    rw [← control r reading] at task pass later run readIn wrong
    have track_eq : track = r.againTrack := by cases r <;> rfl
    have again_eq : again = r.again := by cases r <;> rfl
    rw [again_eq, track_eq]
    exact ⟨task, pass, later, run, readIn, wrong, on, off⟩
  · have calm := other free
    rw [calm]
    refine ⟨?_, port⟩
    change w.head = { Head.reset with track := w.head.track }
    rw [head]

end

end

section
/-! The head's own steps: taking up the front item, seeks, bias switches, holds and missing sectors; and the data
frames of both directions (O48, O51 to O53, O59, O60). -/
set_option Elab.async false

namespace Sys2Proof.Machine
open Sys2Proof.Safety

/-! ### The conditions of a pass (R105, R106) -/

theorem passAwaited_met (s : State) (met : BiasMet s) :
    passAwaited s = if s.head.pass.gated = true ∧ s.drive.speed = .offSpeed then
      s.setHead { s.head with activity := .holding, holdTimer := some 0 }
    else s.setHead { s.head with activity := .awaitingStart } := by
  unfold passAwaited
  rcases met with none | same
  · rw [none]
  · rw [same]
    exact if_pos rfl

theorem passAwaited_starts (s : State) (met : BiasMet s) (free : s.head.pass.gated = false ∨ s.drive.speed = .inSpeed) :
    passAwaited s = s.setHead { s.head with activity := .awaitingStart } := by
  rw [passAwaited_met s met, if_neg]
  rintro ⟨gated, off⟩
  rcases free with free | free
  · exact Bool.noConfusion (free.symm.trans gated)
  · exact nomatch free.symm.trans off

theorem passAwaited_holds (s : State) (met : BiasMet s) (gated : s.head.pass.gated = true)
    (off : s.drive.speed = .offSpeed) :
    passAwaited s = s.setHead { s.head with activity := .holding, holdTimer := some 0 } := by
  rw [passAwaited_met s met, if_pos ⟨gated, off⟩]

theorem passAwaited_switches (s : State) (b : Bias) (requires : s.passBias = some b) (other : s.head.bias ≠ b) :
    passAwaited s = (s.setHead { s.head with
      bias := .switching, activity := .biasing, biasTimer := some 0 }).setPort (s.port ++ [.switchBias b]) := by
  unfold passAwaited
  rw [requires]
  exact if_neg other

theorem State.meetSpeed_eq (s : State) : s.meetSpeed =
    s.setHead (if s.head.pass.gated = true ∧ s.drive.speed = .offSpeed then
      { s.head with activity := .holding, holdTimer := some 0 }
    else { s.head with activity := .awaitingStart }) := by
  unfold State.meetSpeed
  split <;> rfl

theorem State.passOverdue_iff (s : State) : s.passOverdue = true ↔
    s.head.activity = .inPass ∧ s.head.revs = 4 ∧ ∃ t ∈ s.head.targets, t.seen = false := by
  simp only [State.passOverdue, Bool.and_eq_true, decide_eq_true_eq, List.any_eq_true, Bool.not_eq_true', and_assoc]
  rfl

/-! ### A rule that ends the head's task (R101, R102, R104 to R106) -/

theorem State.sectorId_wrongTrack (s : State) (r : Run) (track sector : Nat) (blank : Bool) (run : s.head.run = some r)
    (at' : s.head.activity = .awaitingStart ∨ s.head.activity = .inPass ∧ s.passOverdue = false)
    (off : track ≠ r.track) : s.sectorId track sector blank = s.wrongTrack := by
  unfold State.sectorId
  rw [run]
  rcases at' with start | ⟨pass, due⟩
  · rw [start]
    exact if_pos off
  · rw [pass]
    exact (if_neg (Bool.eq_false_iff.mp due)).trans (if_pos off)

/-- Whichever rule it is, the command ends the task from the state that the rule leaves. -/
theorem exec_headFails {s : State} {i : Instr} {o : ItemOutcome} {s' : State} (free : s.held = false)
    (fails : HeadFails s i o s') : exec i s = .next (s'.endTask o .none) := by
  rcases fails with ⟨rfl, seeks, second, rfl, rfl⟩ | ⟨rfl, switches, rfl, rfl⟩ | ⟨rfl, holds, rfl, rfl⟩ |
    ⟨rfl, pass, revs, unseen, rfl, rfl⟩ | ⟨rfl, on, counts, waits, rfl, rfl⟩ |
    ⟨r, track, sector, blank, rfl, run, off, again, at', rfl, rfl⟩
  · refine (s.unlessHeld_free State.seekExpires free).trans (congrArg _ ((if_pos seeks).trans (if_neg ?_)))
    omega
  · exact (s.unlessHeld_free State.biasExpires free).trans (congrArg _ (if_pos switches))
  · exact (s'.unlessHeld_free State.holdExpires free).trans (congrArg _ (if_pos holds))
  · exact (s'.unlessHeld_free State.missingEnds free).trans
      (congrArg _ (if_pos (s'.passOverdue_iff.mpr ⟨pass, revs, unseen⟩)))
  · refine (s.unlessHeld_free State.indexLoss free).trans (congrArg _ ?_)
    rw [s.indexLoss_eq on counts, if_pos waits]
  · refine (s.unlessHeld_free (State.sectorId track sector blank) free).trans (congrArg _ ?_)
    rw [s.sectorId_wrongTrack r track sector blank run at' off]
    exact if_neg again

theorem exec_headFails_serves {s : State} {i : Instr} {o : ItemOutcome} {s' : State} {it : WorkItem}
    (free : s.held = false) (fails : HeadFails s i o s') (serves : Serves it s') :
    ∃ t, exec i s = .next t ∧ HeadEnds o .none it s' t :=
  ⟨_, exec_headFails free fails, State.endTask_serves _ _ serves⟩

/-! ### Seeks (R101) -/

theorem State.seekArrives_seeking (s : State) (r : Run) (seeks : s.head.activity = .seeking)
    (run : s.head.run = some r) : s.seekArrives =
      passAwaited (s.setHead { s.head with track := some r.track, seekTimer := none }) := by
  unfold State.seekArrives
  rw [run]
  exact (if_pos seeks).trans (State.meetBias_eq _)

theorem State.seekArrives_passed (s : State) (calm : s.head.activity ≠ .seeking) : s.seekArrives = s := by
  unfold State.seekArrives
  split
  · rfl
  · exact if_neg calm

theorem State.seekExpires_again (s : State) (r : Run) (seeks : s.head.activity = .seeking) (run : s.head.run = some r)
    (first : s.head.seekIssues = 1) : s.seekExpires =
      (s.setHead { s.head with seekIssues := 2, seekTimer := some 0 }).setPort (s.port ++ [.seek r.track]) := by
  refine (if_pos seeks).trans ((if_pos first).trans ?_)
  unfold State.commandSeek
  rw [run]
  dsimp only [State.mapHead]
  rw [← seeks]
  rfl

/-! ### Runs formed from an item's blocks (R99, R100) -/

theorem writePasses_eq (k : MediaKind) (verify : Bool) : writePasses k verify = placePasses k verify := by
  cases k <;> cases verify <;> rfl

theorem runFormed_congr {s : State} {it : WorkItem} {ready ready' : Nat → Prop} {r : Run}
    (same : ∀ k, ready k ↔ ready' k) (formed : RunFormed s it ready r) : RunFormed s it ready' r := by
  have : ready = ready' := funext fun k => propext (same k)
  exact this ▸ formed

section Form

variable {s : State} {it : WorkItem} {rest : List WorkItem} (front : s.queue = it :: rest)
include front

theorem State.formRun_waitsForData (place : it.kind = .place) (facts : s.drive.facts.isSome = true)
    (empty : slotState it.id it.blocksDone s.slots ≠ .full) :
    s.formRun = (s.setHead { s.head with activity := .waitingData, run := none }).setDataTimer (some 0) := by
  obtain ⟨f, facts⟩ := Option.isSome_iff_exists.mp facts
  unfold State.formRun
  simp only [front, place, facts]
  exact if_neg empty

theorem State.formRun_waitsForSlot (fetch : it.kind = .fetch) (facts : s.drive.facts.isSome = true)
    (none : slotState it.id it.blocksDone s.slots ≠ .reading) :
    s.formRun = s.setHead { s.head with activity := .waitingSlot, run := .none } := by
  obtain ⟨f, facts⟩ := Option.isSome_iff_exists.mp facts
  unfold State.formRun
  simp only [front, fetch, facts]
  exact if_neg none

theorem State.formRun_place {f : Facts} (place : it.kind = .place) (facts : s.drive.facts = some f)
    (full : slotState it.id it.blocksDone s.slots = .full) (more : it.blocksDone < it.count)
    (placed : (s.itemPlace it it.blocksDone).isSome = true) :
    ∃ r, RunFormed s it (fun k => slotState it.id k s.slots = .full) r ∧
      s.formRun = runBegun r (placePasses f.kind it.snapshot).1 (placePasses f.kind it.snapshot).2 s := by
  obtain ⟨r, formed, begun⟩ := s.startBlocks_formed it (some .full) (writePasses f.kind it.snapshot).1
    (writePasses f.kind it.snapshot).2 more placed
  refine ⟨r, runFormed_congr (fun k => by simp [eq_comm]) formed, ?_⟩
  rw [← writePasses_eq, ← begun]
  unfold State.formRun
  simp only [front, place, facts]
  exact if_pos full

theorem State.formRun_fetch (fetch : it.kind = .fetch) (facts : s.drive.facts.isSome = true)
    (reading : slotState it.id it.blocksDone s.slots = .reading) (more : it.blocksDone < it.count)
    (placed : (s.itemPlace it it.blocksDone).isSome = true) :
    ∃ r, RunFormed s it (fun k => slotState it.id k s.slots = .reading) r ∧ s.formRun = runBegun r .read [] s := by
  obtain ⟨f, facts⟩ := Option.isSome_iff_exists.mp facts
  obtain ⟨r, formed, begun⟩ := s.startBlocks_formed it (some .reading) .read [] more placed
  refine ⟨r, runFormed_congr (fun k => by simp [eq_comm]) formed, ?_⟩
  rw [← begun]
  unfold State.formRun
  simp only [front, fetch, facts]
  exact if_pos reading

theorem State.formRun_blank (blank : it.kind = .blank) (facts : s.drive.facts.isSome = true)
    (more : it.blocksDone < it.count) (placed : (s.itemPlace it it.blocksDone).isSome = true) :
    ∃ r, RunFormed s it (fun _ => True) r ∧ s.formRun = runBegun r .erase [.blankCheck] s := by
  obtain ⟨f, facts⟩ := Option.isSome_iff_exists.mp facts
  obtain ⟨r, formed, begun⟩ := s.startBlocks_formed it none .erase [.blankCheck] more placed
  refine ⟨r, runFormed_congr (fun k => by simp) formed, ?_⟩
  rw [← begun]
  unfold State.formRun
  simp only [front, blank, facts]

end Form

/-! ### The front item taken up (R86) -/

/-- The ending of an item takes it from the queue whatever its own record there holds. -/
theorem ended_setFront (o : ItemOutcome) (c : WriteCause) (it x y : WorkItem) (rest : List WorkItem) (s : State)
    (front : s.queue = it :: rest) (mine : it.id = y.id)
    (same : x.id = y.id) : ended o c y (s.setQueue (x :: rest)) = ended o c y s := by
  have left : (x :: rest).filter (fun z => decide (z.id ≠ y.id)) = s.queue.filter fun z => decide (z.id ≠ y.id) := by
    rw [front]
    simp [mine, same]
  unfold ended
  cases y.route with
  | tag t => exact congrArg (fun q => reports ((s.setQueue q).setSlots _) _) left
  | lane n => exact congrArg (fun q => State.laneResult false _ ((s.setQueue q).setSlots _)) left

theorem itemEnds_of_front {o : ItemOutcome} {c : WriteCause} {it x y : WorkItem} {rest : List WorkItem}
    {s s' t : State} (front : s.queue = it :: rest) (mine : it.id = y.id) (same : x.id = y.id)
    (left : idle s' = (idle s).setQueue (x :: rest)) (ends : ItemEnds o c y s' t) : ItemEnds o c y s t := by
  unfold ItemEnds at *
  rwa [left, ended_setFront o c it x y rest (idle s) front mine same] at ends

theorem State.takeUp_passed (s : State) (it : WorkItem) (rest : List WorkItem) (front : s.queue = it :: rest)
    (busy : it.state ≠ .waiting ∨ s.head.task ≠ .none ∨ s.list.request = true) : s.takeUp = s := by
  unfold State.takeUp
  simp only [front]
  refine if_neg ?_
  rintro ⟨waiting, free, calm⟩
  rcases busy with h | h | h
  · exact h waiting
  · exact h free
  · exact Bool.noConfusion (h.symm.trans calm)

/-- The item the head takes up, and the state in which it begins its work. -/
def State.servedFront (it : WorkItem) (rest : List WorkItem) (s : State) : State :=
  (s.setQueue ({ it with state := .inService } :: rest)).setHead { s.head with task := .item }

theorem State.takeUp_begins (s : State) (it : WorkItem) (rest : List WorkItem) (front : s.queue = it :: rest)
    (waiting : it.state = .waiting) (free : s.head.task = .none) (calm : s.list.request = false) :
    s.takeUp = (s.servedFront it rest).beginItem it := by
  unfold State.takeUp
  simp only [front]
  exact if_pos ⟨waiting, free, calm⟩

theorem State.beginItem_flush (s : State) (it x : WorkItem) (rest : List WorkItem) (flush : it.kind = .flush)
    (front : s.queue = x :: rest) (clean : s.list.dirty = false) :
    s.beginItem it = (s.setQueue ({ x with blocksDone := 1 } :: rest)).endItem .ok .none := by
  unfold State.beginItem State.mapFront
  rw [flush, front]
  exact if_neg (Bool.eq_false_iff.mp clean)

/-! ### Data frames (R124 to R129) -/

section Frames

variable {s : State} {route : Route}

theorem State.frameTaker_none (q : List WorkItem) (none : ∀ it ∈ q, it.route = route → s.awaitingData it = false) :
    s.frameTaker route q = .none := by
  induction q with
  | nil => rfl
  | cons it rest ih =>
    refine (if_neg ?_).trans (ih fun x member => none x (.tail _ member))
    rintro ⟨mine, awaits⟩
    exact Bool.noConfusion (awaits.symm.trans (none it (.head _) mine))

theorem State.frameTaker_first (before : List WorkItem) (it : WorkItem) (after : List WorkItem)
    (none : ∀ x ∈ before, x.route = route → s.awaitingData x = false) (mine : it.route = route)
    (awaits : s.awaitingData it = true) : s.frameTaker route (before ++ it :: after) = some it := by
  induction before with
  | nil => exact if_pos ⟨mine, awaits⟩
  | cons x rest ih =>
    refine (if_neg ?_).trans (ih fun y member => none y (.tail _ member))
    rintro ⟨other, waits⟩
    exact Bool.noConfusion (waits.symm.trans (none x (.head _) other))

theorem State.lowestAwaiting_some (s : State) (it : WorkItem) (fuel first k : Nat) (above : first ≤ k)
    (below : k < first + fuel) (awaits : slotState it.id k s.slots = .awaiting)
    (lower : ∀ j, first ≤ j → j < k → slotState it.id j s.slots ≠ .awaiting) :
    s.lowestAwaiting it fuel first = some k := by
  induction fuel generalizing first with
  | zero => omega
  | succ fuel ih =>
    unfold State.lowestAwaiting State.awaits
    by_cases here : first = k
    · subst here
      rw [awaits]
      exact if_pos rfl
    · rw [if_neg (by simpa using lower first (Nat.le_refl _) (by omega))]
      exact ih (first + 1) (by omega) (by omega) fun j above' => lower j (by omega)

theorem State.lowestAwaiting_none (s : State) (it : WorkItem) (fuel first : Nat)
    (none : ∀ k, first ≤ k → k < first + fuel → slotState it.id k s.slots ≠ .awaiting) :
    s.lowestAwaiting it fuel first = .none := by
  induction fuel generalizing first with
  | zero => rfl
  | succ fuel ih =>
    unfold State.lowestAwaiting State.awaits
    rw [if_neg (by simpa using none first (Nat.le_refl _) (by omega))]
    exact ih (first + 1) fun k above below => none k (by omega) (by omega)

theorem State.lowestAwaiting_taken (s : State) (it : WorkItem) (fuel first : Nat) :
    (taken s).lowestAwaiting it fuel first = s.lowestAwaiting it fuel first := by
  induction fuel generalizing first with
  | zero => rfl
  | succ fuel ih => exact congrArg (fun low => if s.awaits it first = true then some first else low) (ih (first + 1))

theorem State.awaitingData_taken (s : State) (it : WorkItem) : (taken s).awaitingData it = s.awaitingData it := by
  unfold State.awaitingData
  rw [State.lowestAwaiting_taken]

end Frames

theorem State.linkFree_iff (s : State) : s.linkFree = true ↔
    ¬ (∃ f ∈ s.outbound.tail, ∃ g i b, f = Frame.data g i b) ∧ ¬ ∃ x ∈ s.slots, x.state = .sending := by
  have data (f : Frame) : f.isData = true ↔ ∃ g i b, f = Frame.data g i b := by cases f <;> simp [Frame.isData]
  simp only [State.linkFree, Bool.and_eq_true, Bool.not_eq_true', ← Bool.not_eq_true, List.any_eq_true,
    decide_eq_true_eq, data]

end Sys2Proof.Machine

section

open Sys2Proof Sys2Proof.Machine Sys2Proof.Safety

/-- Settles O51. -/
theorem seeksCompleteOrAreIssuedAgain : Obligations.SeeksCompleteOrAreIssuedAgain := by
  unfold Obligations.SeeksCompleteOrAreIssuedAgain
  intro s r free
  have arrives : exec .seekComplete s = .next s.seekArrives := s.unlessHeld_free _ free
  have expires : exec .seekTimeout s = .next s.seekExpires := s.unlessHeld_free _ free
  refine ⟨fun calm => ⟨?_, ?_⟩, fun seeks run => ?_⟩
  · rw [arrives, s.seekArrives_passed calm]
  · exact expires.trans (congrArg _ (if_neg calm))
  intro arrived
  have arrive : exec .seekComplete s = .next (passAwaited arrived) := by
    rw [arrives, s.seekArrives_seeking r seeks run]
  refine ⟨fun met speed => ?_, fun met gated off => ?_, fun b requires other => ?_, fun first => ?_,
    fun it second serves => ?_⟩
  · rw [arrive, passAwaited_starts arrived met speed]
  · rw [arrive, passAwaited_holds arrived met gated off]
  · rw [arrive, passAwaited_switches arrived b requires other]
    rfl
  · rw [expires, s.seekExpires_again r seeks run first]
  · exact exec_headFails_serves free (.inl ⟨rfl, seeks, second, rfl, rfl⟩) serves

/-- Settles O52. -/
theorem biasSwitchesCompleteOrFail : Obligations.BiasSwitchesCompleteOrFail := by
  unfold Obligations.BiasSwitchesCompleteOrFail
  intro s free
  have arrives : exec .biasReady s = .next s.biasArrives := s.unlessHeld_free _ free
  have expires : exec .biasTimeout s = .next s.biasExpires := s.unlessHeld_free _ free
  refine ⟨fun calm => ⟨?_, expires.trans (congrArg _ (if_neg calm))⟩, fun b switches bias requires => ?_,
    fun it switches serves => exec_headFails_serves free (.inr (.inl ⟨rfl, switches, rfl, rfl⟩)) serves⟩
  · rw [arrives]
    unfold State.biasArrives
    split
    · rfl
    · exact congrArg _ (if_neg fun h => calm h.1)
  · rw [arrives]
    unfold State.biasArrives
    rw [requires]
    refine congrArg _ ((if_pos ⟨switches, bias⟩).trans ((State.meetSpeed_eq _).trans ?_))
    rfl

/-- Settles O53. -/
theorem holdsAndMissingSectorsEndTheItem : Obligations.HoldsAndMissingSectorsEndTheItem := by
  unfold Obligations.HoldsAndMissingSectorsEndTheItem
  intro s free due
  have missing : exec .sectorMissing s = .next s.missingEnds := s.unlessHeld_free _ free
  refine ⟨fun calm => (s.unlessHeld_free State.holdExpires free).trans (congrArg _ (if_neg calm)),
    fun calm => missing.trans (congrArg _ (if_neg (mt s.passOverdue_iff.mp calm))), fun it holds serves => ?_,
    fun it ⟨pass, revs, unseen⟩ serves => ?_⟩
  · exact exec_headFails_serves free (.inr (.inr (.inl ⟨rfl, holds, rfl, rfl⟩))) serves
  · exact exec_headFails_serves free (.inr (.inr (.inr (.inl ⟨rfl, pass, revs, unseen, rfl, rfl⟩)))) serves

/-- Settles O48: `beginItem` by the kind of the item, each run by what `formRun` says of it. -/
theorem theHeadTakesUpTheFrontItem : Obligations.TheHeadTakesUpTheFrontItem := by
  unfold Obligations.TheHeadTakesUpTheFrontItem
  intro s it rest free front serving served next placed
  have runs : exec .itemTakeUp s = .next s.takeUp := s.unlessHeld_free _ free
  refine ⟨fun busy => runs.trans (congrArg _ (s.takeUp_passed it rest front busy)), fun waiting idle' calm => ?_⟩
  have begins : exec .itemTakeUp s = .next (served.beginItem it) :=
    runs.trans (congrArg _ (s.takeUp_begins it rest front waiting idle' calm))
  have forms (media : it.kind = .fetch ∨ it.kind = .place ∨ it.kind = .blank) :
      exec .itemTakeUp s = .next served.formRun := by
    rw [begins]
    unfold State.beginItem
    rcases media with kind | kind | kind <;> rw [kind]
  have front' : served.queue = serving :: rest := rfl
  refine ⟨fun place facts empty => ?_, fun f place facts full placed => ?_, fun fetch facts none => ?_,
    fun fetch facts reading placed => ?_, fun blank facts placed => ?_, fun store => ?_, fun flush dirty => ?_,
    fun flush clean => ?_⟩
  · rw [forms (.inr (.inl place)), State.formRun_waitsForData front' place facts empty]
  · obtain ⟨r, formed, begun⟩ := State.formRun_place front' place facts full placed.1 placed.2
    exact ⟨r, formed, (forms (.inr (.inl place))).trans (congrArg _ begun)⟩
  · rw [forms (.inl fetch), State.formRun_waitsForSlot front' fetch facts none]
  · obtain ⟨r, formed, begun⟩ := State.formRun_fetch front' fetch facts reading placed.1 placed.2
    exact ⟨r, formed, (forms (.inl fetch)).trans (congrArg _ begun)⟩
  · obtain ⟨r, formed, begun⟩ := State.formRun_blank front' blank facts placed.1 placed.2
    exact ⟨r, formed, (forms (.inr (.inr blank))).trans (congrArg _ begun)⟩
  · rw [begins]
    unfold State.beginItem
    rw [store]
    exact congrArg _ (State.startRun_eq _ _ _ _)
  · rw [begins]
    unfold State.beginItem
    rw [flush]
    exact congrArg _ ((if_pos dirty).trans (State.startWriteBack_eq _))
  · refine ⟨_, begins, ?_⟩
    rw [served.beginItem_flush it serving rest flush front' clean]
    have done := State.endItem_headEnds { serving with blocksDone := 1 } rest .ok .none
      (served.setQueue ({ serving with blocksDone := 1 } :: rest)) rfl
    exact itemEnds_of_front (y := { it with blocksDone := 1 }) (x := { serving with blocksDone := 1 }) front rfl rfl rfl
      (done.2 fun fetch => nomatch flush.symm.trans fetch)

/-- Settles O59. -/
theorem dataFramesFillSlotsInOrder : Obligations.DataFramesFillSlotsInOrder := by
  unfold Obligations.DataFramesFillSlotsInOrder
  intro s route index d free whole frame
  have arrives : frame = .next ((taken s).takeData route index d) :=
    (s.takeFrame_free _ free).trans (congrArg _ (if_pos whole))
  have expires : exec .dataTimeout s = .next s.dataExpires := s.unlessHeld_free _ free
  refine ⟨fun none => ?_, fun before it after queue others mine place => ?_, fun none => ?_,
    fun it rest n runs front => ?_⟩
  · rw [arrives]
    unfold State.takeData
    rw [State.frameTaker_none (s := taken s) (taken s).queue
      fun it member mine => (s.awaitingData_taken it).trans (none it member mine)]
    rfl
  · have taker (awaits : s.awaitingData it = true) : (taken s).frameTaker route (taken s).queue = some it := by
      rw [show (taken s).queue = before ++ it :: after from queue]
      exact State.frameTaker_first (s := taken s) before it after
        (fun x member other => (s.awaitingData_taken x).trans (others x member other)) mine
        ((s.awaitingData_taken it).trans awaits)
    have awaiting (h : it.given < it.count ∨ (s.lowestAwaiting it it.count 0).isSome = true) :
        s.awaitingData it = true := by
      simp only [State.awaitingData, place, decide_true, Bool.true_and, Bool.or_eq_true, decide_eq_true_eq]
      exact h
    have fills (k : Nat) (below : k < it.count) (awaits : slotState it.id k s.slots = .awaiting)
        (lowest : ∀ j < k, slotState it.id j s.slots ≠ .awaiting) :
        frame = .next (if it.indexOf k = index.toNat then (taken s).acceptFrame it k d
          else (taken s).endFromOutside it .dataOrder) := by
      have low : s.lowestAwaiting it it.count 0 = some k :=
        s.lowestAwaiting_some it it.count 0 k (Nat.zero_le _) (by omega) awaits fun j _ => lowest j
      rw [arrives]
      unfold State.takeData
      rw [taker (awaiting (.inr (by rw [low]; rfl)))]
      dsimp only
      rw [s.lowestAwaiting_taken, low]
    refine ⟨fun k below awaits lowest expected => ?_, fun k below awaits lowest wrong => ?_, fun slotless none => ?_⟩
    · intro filled awaited
      have accepts : frame = .next ((taken s).acceptFrame it k d) :=
        (fills k below awaits lowest).trans (congrArg _ (if_pos expected))
      refine ⟨fun other => accepts.trans (congrArg _ (if_neg other)), fun f waits first facts placed => ?_⟩
      have forms : frame = .next (filled.setDataTimer none).formRun :=
        accepts.trans (congrArg _ (if_pos waits))
      subst first
      have next : k = it.blocksDone := waits.2.2.2
      have full : slotState it.id it.blocksDone filled.slots = .full := by
        rw [← next]
        exact (slotState_fillSlot it.id k .full d s.slots (by decide) (by rw [awaits]; decide)).1
      obtain ⟨r, formed, begun⟩ := State.formRun_place (s := filled.setDataTimer none) (f := f) queue place facts full
        (next ▸ below) (next ▸ placed)
      exact ⟨r, formed, forms.trans (congrArg _ begun)⟩
    · refine ⟨_, (fills k below awaits lowest).trans (congrArg _ (if_neg wrong)), ?_⟩
      exact State.endFromOutside_ends it .dataOrder (taken s)
    · refine ⟨_, arrives, ?_⟩
      unfold State.takeData
      rw [taker (awaiting (.inl slotless))]
      dsimp only
      rw [s.lowestAwaiting_taken, s.lowestAwaiting_none it it.count 0 fun k _ below => none k (by omega)]
      exact State.endFromOutside_ends it .dataOrder (taken s)
  · rw [expires]
    unfold State.dataExpires
    rcases none with none | none
    · rw [none]
    · rw [none]
      cases s.dataTimer <;> rfl
  · refine ⟨_, expires, ?_⟩
    unfold State.dataExpires
    rw [runs, front]
    exact State.endFromOutside_ends it .dataTimeout s

/-- Settles O60. -/
theorem readBlocksLeaveInBlockOrder : Obligations.ReadBlocksLeaveInBlockOrder := by
  unfold Obligations.ReadBlocksLeaveInBlockOrder
  intro s it rest tag free front fetch route waits taking
  have begins : exec .sendBlock s = .next s.beginSend := s.unlessHeld_free _ free
  have produces : exec .dataFrameProduced s = .next s.dataProduced := s.unlessHeld_free _ free
  have sends : s.beginSend = if it.kind = .fetch ∧ s.linkFree = true ∧ slotState it.id it.sent s.slots = .ready then
      s.setSlots (moveSlot it.id it.sent .sending s.slots) else s := by
    unfold State.beginSend
    rw [front]
  have link : s.linkFree = true ↔ ¬ waits ∧ ¬ taking := s.linkFree_iff
  refine ⟨fun ready calm unused => ?_, fun other => ?_, fun other => ?_, fun sending => ?_⟩
  · rw [begins, sends, if_pos ⟨fetch, link.mpr ⟨calm, unused⟩, ready⟩]
  · rw [begins, sends, if_neg]
    rintro ⟨_, calm, ready⟩
    obtain ⟨calm, unused⟩ := link.mp calm
    rcases other with other | other | other
    · exact other ready
    · exact calm other
    · exact unused other
  · rw [produces]
    unfold State.dataProduced
    simp only [front, route]
    exact congrArg _ (if_neg fun h => other h.2)
  · intro gone produced
    have leaves : s.dataProduced = match it.ended with
        | none => produced.settle
        | some (o, c) => if gone.sent = gone.blocksDone then (produced.finishItem false gone o c).settle
          else produced.settle := by
      have due : it.kind = .fetch ∧ slotState it.id it.sent s.slots = .sending := ⟨fetch, sending⟩
      have same : ((s.produce (.data tag it.sent (slotData it.id it.sent s.slots))).setQueue (gone :: rest)).setSlots
          (freeSlot it.id it.sent s.slots) = produced := rfl
      unfold State.dataProduced
      simp only [front]
      split
      · next n other => exact nomatch route.symm.trans other
      · next t mine =>
        cases Route.tag.inj (route.symm.trans mine)
        rw [if_pos due, same] <;> rfl
    refine ⟨fun stays => ⟨_, produces, ?_⟩, fun o c fate last => ⟨_, produces, ?_⟩⟩
    · have kept : s.dataProduced = produced.settle := by
        rw [leaves]
        cases fate : it.ended with
        | none => rfl
        | some oc =>
          exact if_neg (stays.resolve_left (by rw [fate]; exact Option.some_ne_none oc))
      rw [kept]
      exact produced.settle_settled
    · have done : s.dataProduced = (ended o c gone produced).settle := by
        rw [leaves, fate, ← State.finishItem_eq_ended]
        exact if_pos last
      rw [done]
      exact State.settle_settled _

end

end

section
/-! Passes: the targets of a run, sector ID arrivals, and the results while a round goes on (O54, O56). -/
set_option Elab.async false

namespace Sys2Proof.Machine
open Sys2Proof.Safety

/-! ### The targets of a run -/

section Targets

variable {before after : List Target} {t : Target}

theorem findTarget_none (n : Nat) (ts : List Target) (none : ∀ x ∈ ts, x.sector ≠ n) : findTarget n ts = .none := by
  induction ts with
  | nil => rfl
  | cons x rest ih => exact (if_neg (none x (.head _))).trans (ih fun y member => none y (.tail _ member))

theorem findTarget_mem (n : Nat) (ts : List Target) (x : Target) (found : findTarget n ts = some x) :
    x ∈ ts ∧ x.sector = n := by
  induction ts with
  | nil => exact nomatch found
  | cons y rest ih =>
    unfold findTarget at found
    split at found
    · next here => exact Option.some.inj found ▸ ⟨.head _, here⟩
    · exact ⟨.tail _ (ih found).1, (ih found).2⟩

theorem findTarget_split (alone : ∀ x ∈ before ++ after, x.sector ≠ t.sector) :
    findTarget t.sector (before ++ t :: after) = some t := by
  induction before with
  | nil => exact if_pos rfl
  | cons x rest ih =>
    exact (if_neg (alone x (.head _))).trans (ih fun y member => alone y (.tail _ member))

theorem mapTarget_split (f : Target → Target) (alone : ∀ x ∈ before ++ after, x.sector ≠ t.sector) :
    mapTarget t.sector f (before ++ t :: after) = before ++ f t :: after := by
  have kept (ts : List Target) (sub : ∀ x ∈ ts, x ∈ before ++ after) :
      ts.map (fun x => if x.sector = t.sector then f x else x) = ts :=
    (List.map_congr_left fun x member => if_neg (alone x (sub x member))).trans (List.map_id _)
  unfold mapTarget
  rw [List.map_append, List.map_cons, if_pos rfl, kept before fun x => List.mem_append_left _,
    kept after fun x => List.mem_append_right _]

theorem lowerActed_iff (n : Nat) (ts : List Target) :
    lowerActed n ts = true ↔ ∀ x ∈ ts, x.stage = .toAct → n ≤ x.sector := by
  simp only [lowerActed, List.all_eq_true, Bool.or_eq_true, decide_eq_true_eq]
  exact forall₂_congr fun x _ => ⟨fun h acts => h.resolve_right (not_not_intro acts), fun h => by tauto⟩

theorem roundOver_iff (ts : List Target) : roundOver ts = true ↔ ∀ x ∈ ts, x.stage = .good ∨ x.stage = .bad := by
  simp [roundOver]

theorem roundOver_open {x : Target} {ts : List Target} (member : x ∈ ts)
    (opened : x.stage = .toAct ∨ x.stage = .awaiting) : roundOver ts = false := by
  rw [Bool.eq_false_iff, ne_eq, roundOver_iff]
  intro all
  rcases all x member with h | h <;> rcases opened with o | o <;> exact nomatch h.symm.trans o

end Targets

/-- The target of the run in hand with the sector of `t` is replaced by what `f` makes of it. -/
theorem State.mapTargetAt_split {s : State} {r : Run} {before after : List Target} {t : Target} (f : Target → Target)
    (run : s.head.run = some r) (split : r.targets = before ++ t :: after)
    (alone : ∀ x ∈ before ++ after, x.sector ≠ t.sector) :
    s.mapTargetAt t.sector f = s.setHead (withTargets r (before ++ f t :: after) s) := by
  have targets : s.head.targets = r.targets := by simp [Head.targets, run]
  unfold State.mapTargetAt State.mapHead Head.setTargets withTargets
  dsimp only
  rw [targets, split, mapTarget_split f alone, run]
  rfl

/-- The target `t` of the run in hand has been acted on, with the stage it is then in. -/
def State.actedOn (r : Run) (before : List Target) (t : Target) (after : List Target) (stage : Stage) (s : State) :
    State :=
  s.setHead (withTargets r (before ++ { t with stage := stage, seen := true } :: after) s)

/-! ### The ending of a round -/

theorem State.endPassIfOver_open {s : State} {r : Run} (run : s.head.run = some r)
    (opened : roundOver r.targets = false) : s.endPassIfOver = s := by
  unfold State.endPassIfOver
  rw [run]
  exact if_neg (Bool.eq_false_iff.mp opened)

theorem State.endPassIfOver_over {s : State} {r : Run} (run : s.head.run = some r)
    (done : roundOver r.targets = true) : s.endPassIfOver = match s.head.pass with
      | .erase => s.nextPass
      | .write => s.writeEnds r
      | .verify => s.verifyEnds r
      | .blankCheck => s.blankCheckEnds
      | .read => s.readRoundEnds r := by
  unfold State.endPassIfOver
  rw [run]
  exact if_pos done

/-! ### Sector ID arrivals (R102, R103) -/

theorem inItsPass_run (r : Run) (s : State) : (inItsPass r s).head.run = s.head.run := by
  unfold inItsPass
  split <;> rfl

theorem inItsPass_pass (r : Run) (s : State) : (inItsPass r s).head.pass = s.head.pass := by
  unfold inItsPass
  split <;> rfl

theorem inItsPass_later (r : Run) (s : State) : (inItsPass r s).head.later = s.head.later := by
  unfold inItsPass
  split <;> rfl

/-- The arrival that begins the pass changes nothing but the head. -/
theorem inItsPass_back (r : Run) (s : State) : (inItsPass r s).setHead s.head = s := by
  unfold inItsPass
  split <;> rfl

theorem inItsPass_port (r : Run) (s : State) : (inItsPass r s).port = s.port :=
  (congrArg State.port (inItsPass_back r s) :)

theorem inItsPass_queue (r : Run) (s : State) : (inItsPass r s).queue = s.queue :=
  (congrArg State.queue (inItsPass_back r s) :)

theorem inItsPass_slots (r : Run) (s : State) : (inItsPass r s).slots = s.slots :=
  (congrArg State.slots (inItsPass_back r s) :)

theorem State.sectorId_passed (s : State) (track sector : Nat) (blank : Bool) (start : s.head.activity ≠ .awaitingStart)
    (pass : s.head.activity ≠ .inPass) : s.sectorId track sector blank = s := by
  unfold State.sectorId
  cases s.head.run with
  | none => rfl
  | some r =>
    dsimp only
    split
    · next now => exact absurd now start
    · next now => exact absurd now pass
    all_goals rfl

theorem State.mayBegin_iff (s : State) : s.mayBegin = true ↔
    (s.head.pass.gated = true → s.drive.tab ≠ some true) ∧ BiasMet s := by
  have bias : (match s.passBias with | none => true | some b => decide (s.head.bias = b)) = true ↔ BiasMet s := by
    unfold BiasMet
    cases s.passBias with
    | none => simp
    | some b => simp [eq_comm]
  have gate : (!(s.head.pass.gated && s.protectedTab)) = true ↔
      (s.head.pass.gated = true → s.drive.tab ≠ some true) := by
    rw [Bool.not_eq_true', ← Bool.not_eq_true, Bool.and_eq_true, s.protectedTab_iff, not_and]
  unfold State.mayBegin
  exact (Iff.of_eq (Bool.and_eq_true _ _)).trans (and_congr gate bias)

/-- An arrival on the run's track that counts is one of the pass it belongs to. -/
theorem State.sectorId_counts {s : State} {r : Run} (sector : Nat) (blank : Bool) (run : s.head.run = some r)
    (counts : ArrivalCounts s) :
    s.sectorId r.track sector blank = (inItsPass r s).passArrival r sector blank := by
  unfold State.sectorId inItsPass
  rw [run]
  rcases counts with ⟨pass, due⟩ | ⟨start, met, gate⟩
  · simp only [pass, due, Bool.false_eq_true, if_false, ne_eq, not_true, reduceCtorEq]
  · have speed : ¬ (s.head.pass.gated = true ∧ s.drive.speed = .offSpeed) := fun ⟨gated, off⟩ =>
      nomatch (gate gated).1.symm.trans off
    have may : s.mayBegin = true := s.mayBegin_iff.mpr ⟨fun gated => (gate gated).2, met⟩
    simp only [start, ne_eq, not_true, if_false, speed, may, if_true]
    rfl

section Arrival

variable {s : State} {r : Run} {before after : List Target} {t : Target}

theorem State.passArrival_unknown (sector : Nat) (blank : Bool) (none : ∀ x ∈ r.targets, x.sector ≠ sector) :
    s.passArrival r sector blank = s := by
  unfold State.passArrival
  rw [findTarget_none sector r.targets none]

theorem State.passArrival_passed (blank : Bool) (split : r.targets = before ++ t :: after)
    (alone : ∀ x ∈ before ++ after, x.sector ≠ t.sector)
    (passed : t.stage = .good ∨ t.stage = .bad ∨
      t.stage = .toAct ∧ ∃ x ∈ before, x.stage = .toAct ∧ x.sector < t.sector) :
    s.passArrival r t.sector blank = s := by
  unfold State.passArrival
  rw [split, findTarget_split alone]
  dsimp only
  rcases passed with good | bad | ⟨acts, x, member, due, lower⟩
  · rw [good]
  · rw [bad]
  · rw [acts]
    refine if_neg fun all => ?_
    have above := (lowerActed_iff _ _).mp all x (List.mem_append_left _ member) due
    omega

theorem State.passArrival_acts (blank : Bool) (next : NextToAct r before t after) :
    s.passArrival r t.sector blank = s.actOnTarget r t blank := by
  obtain ⟨split, acts, acted, alone, higher⟩ := next
  have lower : lowerActed t.sector (before ++ t :: after) = true := by
    refine (lowerActed_iff _ _).mpr fun x member due => ?_
    rcases List.mem_append.mp member with first | later
    · exact absurd due (acted x first)
    · rcases List.mem_cons.mp later with rfl | later
      · exact Nat.le_refl _
      · exact higher x later
  unfold State.passArrival
  rw [split, findTarget_split alone]
  dsimp only
  rw [acts]
  exact if_pos lower

theorem State.passArrival_again (blank : Bool) (split : r.targets = before ++ t :: after)
    (alone : ∀ x ∈ before ++ after, x.sector ≠ t.sector) (awaits : t.stage = .awaiting) :
    s.passArrival r t.sector blank = (s.mapTargetAt t.sector Target.failed).endPassIfOver := by
  unfold State.passArrival
  rw [split, findTarget_split alone]
  dsimp only
  rw [awaits]

end Arrival

/-- The data of a target: the front item's slot of the block, or the sector of the image in hand. -/
theorem State.targetData_eq (s : State) (r : Run) (t : Target) : s.targetData r t =
    if r.work = .blocks ∨ r.work = .rewrite then
      (s.queue.head?.map fun it => slotData it.id t.block s.slots).getD zeroBlock
    else s.head.image.getD t.sector zeroBlock := by
  have zoned : r.work.zoned = true ↔ r.work = .blocks ∨ r.work = .rewrite := by
    cases r.work <;> simp [RunWork.zoned]
  unfold State.targetData
  refine (if_congr zoned ?_ rfl)
  cases s.queue <;> rfl

section Acting

variable {s : State} {r : Run} {before after : List Target} {t : Target} (blank : Bool) (run : s.head.run = some r)
  (split : r.targets = before ++ t :: after) (alone : ∀ x ∈ before ++ after, x.sector ≠ t.sector)
include run split alone

theorem State.actOnTarget_verify (pass : s.head.pass = .verify) : s.actOnTarget r t blank =
    (s.actedOn r before t after .awaiting).setPort
      (s.port ++ [.compare r.track t.sector (s.targetData r t)]) := by
  unfold State.actOnTarget
  rw [pass]
  dsimp only
  rw [State.mapTargetAt_split _ run split alone]
  rfl

theorem State.actOnTarget_read (pass : s.head.pass = .read) : s.actOnTarget r t blank =
    (s.actedOn r before t after .awaiting).setPort (s.port ++ [.read r.track t.sector]) := by
  unfold State.actOnTarget
  rw [pass]
  dsimp only
  rw [State.mapTargetAt_split _ run split alone]
  rfl

theorem State.actOnTarget_erase (pass : s.head.pass = .erase) : s.actOnTarget r t blank =
    ((s.actedOn r before t after .good).setPort (s.port ++ [.erase r.track t.sector])).endPassIfOver := by
  unfold State.actOnTarget
  rw [pass]
  dsimp only
  rw [State.mapTargetAt_split _ run split alone]
  rfl

theorem State.actOnTarget_write (pass : s.head.pass = .write) : s.actOnTarget r t blank =
    ((s.actedOn r before t after .good).setPort
      (s.port ++ [.write r.track t.sector (s.targetData r t)])).endPassIfOver := by
  unfold State.actOnTarget
  rw [pass]
  dsimp only
  rw [State.mapTargetAt_split _ run split alone]
  rfl

theorem State.actOnTarget_blank (pass : s.head.pass = .blankCheck) (found : blank = true) :
    s.actOnTarget r t blank = (if s.head.later = [] then (s.actedOn r before t after .good).completeBlock t.block
      else s.actedOn r before t after .good).endPassIfOver := by
  unfold State.actOnTarget
  rw [pass]
  dsimp only
  rw [if_pos found, State.mapTargetAt_split _ run split alone]
  rfl

omit run split alone in
theorem State.actOnTarget_notBlank (pass : s.head.pass = .blankCheck) (found : blank = false) :
    s.actOnTarget r t blank = s.notBlank r := by
  unfold State.actOnTarget
  rw [pass]
  exact if_neg (Bool.eq_false_iff.mp found)

end Acting

/-! ### Results (R103, R108, R112) -/

theorem State.awaitedTarget_none {s : State} {pass : PassKind} {track sector : Nat}
    (none : ∀ r, s.head.run = some r → r.track = track → s.head.activity = .inPass → s.passOverdue = false →
      ∀ x ∈ r.targets, x.sector = sector → x.stage ≠ .awaiting) : s.awaitedTarget pass track sector = .none := by
  unfold State.awaitedTarget
  split
  · rfl
  · next r run =>
    split
    · next at' =>
      split
      · rfl
      · next x found =>
        obtain ⟨member, here⟩ := findTarget_mem _ _ _ found
        exact if_neg (none r run at'.2.2.1 at'.1 at'.2.2.2 x member here)
    · rfl

theorem State.awaitedTarget_split {s : State} {pass : PassKind} {r : Run} {before after : List Target} {t : Target}
    (inPass : InPass s pass r) (split : r.targets = before ++ t :: after)
    (alone : ∀ x ∈ before ++ after, x.sector ≠ t.sector) (awaits : t.stage = .awaiting) :
    s.awaitedTarget pass r.track t.sector = some (r, t) := by
  obtain ⟨active, due, kind, run⟩ := inPass
  unfold State.awaitedTarget
  rw [run]
  refine (if_pos ⟨active, kind, rfl, due⟩).trans ?_
  rw [split, findTarget_split alone]
  exact if_pos awaits

/-! ### Delivered blocks (R13, R88, R129) -/

theorem leadingDelivered_spec (id : Nat) (sl : List Slot) (fuel k : Nat) :
    let done := leadingDelivered id sl fuel k
    k ≤ done ∧ done ≤ k + fuel ∧
      (∀ j, k ≤ j → j < done → slotState id j sl = .ready ∨ slotState id j sl = .sending) ∧
      (done < k + fuel → slotState id done sl ≠ .ready ∧ slotState id done sl ≠ .sending) := by
  induction fuel generalizing k with
  | zero => exact ⟨Nat.le_refl _, Nat.le_refl _, fun j above below => absurd below (Nat.not_lt.mpr above),
      fun below => absurd below (Nat.lt_irrefl _)⟩
  | succ fuel ih =>
    unfold leadingDelivered
    split
    · next delivered =>
      obtain ⟨above, below, each, stop⟩ := ih (k + 1)
      refine ⟨by omega, by omega, fun j low high => ?_, fun more => stop (by omega)⟩
      by_cases here : j = k
      · exact here ▸ delivered
      · exact each j (by omega) high
    · next waits => exact ⟨Nat.le_refl _, by omega, fun j low high => by omega, fun _ => not_or.mp waits⟩

theorem fillSlot_eq (id k : Nat) (st : SlotState) (d : Block) (sl : List Slot) :
    fillSlot id k st d sl = sl.map fun x =>
      if x.state ≠ .free ∧ x.holder = some id ∧ x.block = k then { x with state := st, data := d } else x := by
  simp only [fillSlot, Slot.serves, decide_eq_true_eq]

/-- The number of leading blocks delivered once block `k` of the front FETCH is. -/
def deliveredBlocks (it : WorkItem) (k : Nat) (d : Block) (s : State) : Nat :=
  leadingDelivered it.id (fillSlot it.id k .ready d s.slots) (it.count - it.blocksDone) it.blocksDone

theorem deliveredBlocks_leading (it : WorkItem) (rest : List WorkItem) (e k : Nat) (d : Block) (n : Nat) (s : State)
    (bound : it.blocksDone ≤ it.count) :
    LeadingDelivered it (received it rest e k d n (deliveredBlocks it k d s) s).slots (deliveredBlocks it k d s) := by
  have slots : (received it rest e k d n (deliveredBlocks it k d s) s).slots = fillSlot it.id k .ready d s.slots :=
    (fillSlot_eq ..).symm
  obtain ⟨above, below, each, stop⟩ :=
    leadingDelivered_spec it.id (fillSlot it.id k .ready d s.slots) (it.count - it.blocksDone) it.blocksDone
  have top : it.blocksDone + (it.count - it.blocksDone) = it.count := by omega
  rw [top] at below stop
  rw [slots]
  exact ⟨above, below, each, stop⟩

theorem State.deliver_eq {s : State} {it : WorkItem} {rest : List WorkItem} {e : Nat} (t : Target) (d : Block) (n : Nat)
    (front : s.queue = it :: rest) (extent : it.extent = some e) :
    s.deliver t d n = received it rest e t.block d n (deliveredBlocks it t.block d s) s := by
  unfold State.deliver State.setItemFlags received deliveredBlocks
  rw [front, ← fillSlot_eq]
  simp only [extent, State.setFlags, Bool.or_false]
  rfl

end Sys2Proof.Machine

section

open Sys2Proof Sys2Proof.Machine Sys2Proof.Safety

/-- Settles O54. -/
theorem sectorIdArrivalsDriveThePass : Obligations.SectorIdArrivalsDriveThePass := by
  unfold Obligations.SectorIdArrivalsDriveThePass
  intro s r track sector blank free arrival starting passing s'
  have runs : arrival = .next (s.sectorId track sector blank) := s.unlessHeld_free _ free
  have counted (run : s.head.run = some r) (counts : ArrivalCounts s) (on : track = r.track) :
      arrival = .next (s'.passArrival r sector blank) := by
    rw [runs, on, State.sectorId_counts sector blank run counts]
  refine ⟨fun start pass => ?_, fun run at' off first => ?_, fun it run at' off again serves => ?_,
    fun run start on gated speed => ?_, fun run counts on none => ?_,
    fun before t after run counts on here split alone passed => ?_, fun before t after run counts on here next => ?_⟩
  · rw [runs, s.sectorId_passed track sector blank start pass]
  · rw [runs, s.sectorId_wrongTrack r track sector blank run at' off]
    unfold State.wrongTrack State.commandSeek
    rw [if_pos first]
    dsimp only [State.mapHead, State.setHead_head]
    rw [run]
    rfl
  · exact exec_headFails_serves free
      (.inr (.inr (.inr (.inr (.inr ⟨r, track, sector, blank, rfl, run, off, again, at', rfl, rfl⟩))))) serves
  · rw [runs, on]
    unfold State.sectorId
    rw [run]
    dsimp only
    rw [show s.head.activity = .awaitingStart from start]
    exact congrArg _ ((if_neg (not_not_intro rfl)).trans (if_pos ⟨gated, speed⟩))
  · rw [counted run counts on, State.passArrival_unknown sector blank none]
  · subst here
    rw [counted run counts on, State.passArrival_passed blank split alone passed]
  · subst here on
    intro further data acted acts
    have acting : arrival = .next (s'.actOnTarget r t blank) := by
      rw [counted run counts rfl, State.passArrival_acts blank next]
    obtain ⟨split, due, _, alone, _⟩ := next
    have run' : s'.head.run = some r := (inItsPass_run r s).trans run
    have pass' (p : PassKind) (pass : s.head.pass = p) : s'.head.pass = p := (inItsPass_pass r s).trans pass
    have data_eq : s'.targetData r t = data := by
      rw [State.targetData_eq, inItsPass_queue, inItsPass_slots]
    have open' (stage : Stage) (more : further) :
        roundOver (before ++ { t with stage := stage, seen := true } :: after) = false := by
      obtain ⟨x, member, opened⟩ := more
      refine roundOver_open (x := x) ?_ opened
      rcases List.mem_append.mp member with h | h
      · exact List.mem_append_left _ h
      · exact List.mem_append_right _ (.tail _ h)
    have port : s'.port = s.port := inItsPass_port r s
    refine ⟨fun pass => ?_, fun pass => ?_, fun pass more => ?_, fun pass more => ?_, fun pass more blank more' => ?_⟩
    · rw [acting, State.actOnTarget_verify blank run' split alone (pass' _ pass), data_eq, port]
      rfl
    · rw [acting, State.actOnTarget_read blank run' split alone (pass' _ pass), port]
      rfl
    · rw [acting, State.actOnTarget_erase blank run' split alone (pass' _ pass), port]
      exact congrArg _ (State.endPassIfOver_open rfl (open' _ more))
    · rw [acting, State.actOnTarget_write blank run' split alone (pass' _ pass), data_eq, port]
      exact congrArg _ (State.endPassIfOver_open rfl (open' _ more))
    · rw [acting, State.actOnTarget_blank _ run' split alone (pass' _ pass) blank, if_neg]
      · exact congrArg _ (State.endPassIfOver_open rfl (open' _ more))
      · rw [inItsPass_later]
        exact more'

/-- Settles O56. -/
theorem resultsGoToTheTargetThatAwaitsThem : Obligations.ResultsGoToTheTargetThatAwaitsThem := by
  unfold Obligations.ResultsGoToTheTargetThatAwaitsThem
  intro s r t other before after free
  have reads (track sector : Nat) (res : ReadResult) :
      exec (.readDataEvent track sector res) s = .next (s.readData track sector res) := s.unlessHeld_free _ free
  have verifies (track sector : Nat) (isMatch : Bool) :
      exec (.verifyCompareResult track sector isMatch) s = .next (s.verifyResult track sector isMatch) :=
    s.unlessHeld_free _ free
  have arrives (track sector : Nat) (blank : Bool) :
      exec (.sectorIdArrival track sector blank) s = .next (s.sectorId track sector blank) :=
    s.unlessHeld_free _ free
  have passed (track sector : Nat) (res : ReadResult) (isMatch : Bool)
      (none : ∀ pass, s.awaitedTarget pass track sector = none) :
      exec (.readDataEvent track sector res) s = .next s ∧
        exec (.verifyCompareResult track sector isMatch) s = .next s := by
    rw [reads, verifies]
    unfold State.readData State.verifyResult
    rw [none, none]
    exact ⟨rfl, rfl⟩
  refine ⟨fun track sector res isMatch none => ?_, fun track sector res isMatch blank outside => ?_,
    fun run active due split awaits alone member opened => ?_⟩
  · exact passed track sector res isMatch fun pass =>
      State.awaitedTarget_none fun r' run on _ _ => none r' run on
  · obtain ⟨read, verify⟩ := passed track sector res isMatch fun pass =>
      State.awaitedTarget_none fun r' run on active due => by
        rcases outside with other | late
        · exact absurd active other
        · exact Bool.noConfusion (late.symm.trans due)
    refine ⟨read, verify, fun late => ?_⟩
    rw [arrives]
    unfold State.sectorId
    cases s.head.run with
    | none => rfl
    | some r' =>
      dsimp only
      rw [(s.passOverdue_iff.mp late).1]
      exact congrArg _ (if_pos late)
  · intro withTarget
    have awaited (pass : PassKind) (kind : s.head.pass = pass) : s.awaitedTarget pass r.track t.sector = some (r, t) :=
      State.awaitedTarget_split ⟨active, due, kind, run⟩ split alone awaits
    have goesOn (t' : Target) : roundOver (before ++ t' :: after) = false := by
      refine roundOver_open (x := other) ?_ opened
      rcases List.mem_append.mp member with h | h
      · exact List.mem_append_left _ h
      · exact List.mem_append_right _ (.tail _ h)
    have marked (f : Target → Target) :
        (s.mapTargetAt t.sector f).endPassIfOver = s.setHead (withTarget (f t)) := by
      rw [State.mapTargetAt_split f run split alone]
      exact State.endPassIfOver_open rfl (goesOn (f t))
    refine ⟨fun pass isMatch => ?_, fun pass => ?_, fun blank => ?_, fun pass control d corrected => ?_,
      fun it rest e d corrected pass blocks front extent bound => ⟨deliveredBlocks it t.block d s,
        deliveredBlocks_leading it rest e t.block d corrected s bound, ?_⟩⟩
    · rw [verifies]
      unfold State.verifyResult
      rw [awaited _ pass]
      exact congrArg _ (marked _)
    · rw [reads]
      unfold State.readData
      rw [awaited _ pass]
      exact congrArg _ (marked _)
    · have at' : inItsPass r s = s := if_neg (by rw [active]; decide)
      rw [arrives, State.sectorId_counts t.sector blank run (.inl ⟨active, due⟩), at',
        State.passArrival_again blank split alone awaits]
      exact congrArg _ (marked _)
    · rw [reads]
      unfold State.readData
      rw [awaited _ pass]
      dsimp only
      rw [if_pos control, State.mapTargetAt_split _ run split alone]
      exact congrArg _ (State.endPassIfOver_open rfl (goesOn _))
    · intro u
      have delivered : (s.setHead (withTarget { t with stage := .good, seen := true })).deliver t d corrected =
          u.setHead (withTarget { t with stage := .good, seen := true }) :=
        State.deliver_eq (s := s.setHead (withTarget { t with stage := .good, seen := true })) t d corrected front
          extent
      rw [reads]
      unfold State.readData
      rw [awaited _ pass]
      dsimp only
      rw [if_neg (by rw [blocks]; decide), State.mapTargetAt_split _ run split alone]
      refine congrArg _ ((congrArg State.endPassIfOver delivered).trans ?_)
      exact State.endPassIfOver_open rfl (goesOn _)

end

end

section
/-! What a pass leaves its item with: blocks completed, the next run or the ending, and a failing block taken up again
(for O49, O55, O57 and O58). -/
set_option Elab.async false

namespace Sys2Proof.Machine
open Sys2Proof.Safety

/-! ### The head's work before a run -/

/-- What of the head's fields a run that is begun does not set afresh. -/
def Head.beforeRun (h : Head) : Head :=
  { h with
    run := none, pass := .read, later := [], begun := false, revs := 0, seekIssues := 0, wrongTracks := 0
    seekTimer := none, biasTimer := none, holdTimer := none, activity := .idle }

theorem runBegun_beforeRun (r : Run) (pass : PassKind) (later : List PassKind) (s : State) :
    runBegun r pass later (s.setHead s.head.beforeRun) = runBegun r pass later s := rfl

theorem runBegun_setHead {s : State} {h : Head} (same : h.beforeRun = s.head.beforeRun) (r : Run) (pass : PassKind)
    (later : List PassKind) : runBegun r pass later (s.setHead h) = runBegun r pass later s := by
  rw [← runBegun_beforeRun r pass later s, ← same]
  exact (runBegun_beforeRun r pass later (s.setHead h)).symm

theorem runBegun_setRun (x : Option Run) (r : Run) (pass : PassKind) (later : List PassKind) (s : State) :
    runBegun r pass later (s.setHead { s.head with run := x }) = runBegun r pass later s :=
  runBegun_setHead (h := { s.head with run := x }) rfl r pass later

theorem idle_setHead {s : State} {h : Head} (same : h.beforeRun = s.head.beforeRun) : idle (s.setHead h) = idle s := by
  have track : h.track = s.head.track := (congrArg Head.track same :)
  have bias : h.bias = s.head.bias := (congrArg Head.bias same :)
  unfold idle
  rw [show (s.setHead h).head.track = h.track from rfl, show (s.setHead h).head.bias = h.bias from rfl, track, bias]
  rfl

/-! ### Blocks completed (R20, R88, R98, R128) -/

theorem getD_set_self (es : List Extent) (e : Nat) (x : Extent) :
    es.set e { (es.set e { x with rf := true, ch := true }).getD e Extent.blank with rf := true, ch := true } =
      es.set e { x with rf := true, ch := true } := by
  by_cases inside : e < es.length
  · simp [inside]
  · rw [List.set_eq_of_length_le (Nat.not_lt.mp inside), List.set_eq_of_length_le (Nat.not_lt.mp inside)]

section Completed

variable (it : WorkItem) (rest : List WorkItem) (e : Nat)

theorem completed_nil (s : State) (front : s.queue = it :: rest) : completed it rest e [] s = s := by
  have slots : (s.slots.map fun x =>
      if x.state ≠ .free ∧ x.holder = some it.id ∧ x.block ∈ ([] : List Nat) then x.release else x) = s.slots := by
    simp
  unfold completed
  rw [slots, if_pos rfl]
  simp only [List.length_nil, Nat.add_zero]
  rw [show ({ it with blocksDone := it.blocksDone } : WorkItem) = it from rfl, ← front]
  rfl

theorem completed_completed (ks ks' : List Nat) (s : State) :
    completed { it with blocksDone := it.blocksDone + ks.length } rest e ks' (completed it rest e ks s) =
      completed it rest e (ks ++ ks') s := by
  have queue : it.blocksDone + ks.length + ks'.length = it.blocksDone + (ks ++ ks').length := by
    rw [List.length_append, Nat.add_assoc]
  have extents : (if ks' = [] then (completed it rest e ks s).extents
      else (completed it rest e ks s).extents.set e
        { (completed it rest e ks s).extents.getD e Extent.blank with rf := true, ch := true }) =
      if ks ++ ks' = [] then s.extents
      else s.extents.set e { s.extents.getD e Extent.blank with rf := true, ch := true } := by
    have before : (completed it rest e ks s).extents = if ks = [] then s.extents
      else s.extents.set e { s.extents.getD e Extent.blank with rf := true, ch := true } := rfl
    rw [before]
    by_cases first : ks = [] <;> by_cases second : ks' = []
    · simp [first, second]
    · simp [first, second]
    · simp [first, second]
    · rw [if_neg second, if_neg first, if_neg (by simp [first])]
      exact (congrArg (List.set · e _) rfl).trans ((List.set_set ..).trans (getD_set_self s.extents e _))
  have slots : ((s.slots.map fun x =>
      if x.state ≠ .free ∧ x.holder = some it.id ∧ x.block ∈ ks then x.release else x).map fun x =>
        if x.state ≠ .free ∧ x.holder = some it.id ∧ x.block ∈ ks' then x.release else x) =
      s.slots.map fun x =>
        if x.state ≠ .free ∧ x.holder = some it.id ∧ x.block ∈ ks ++ ks' then x.release else x := by
    rw [List.map_map]
    refine List.map_congr_left fun x _ => ?_
    by_cases mine : x.state ≠ .free ∧ x.holder = some it.id ∧ x.block ∈ ks
    · simp [mine, Slot.release]
    · by_cases more : x.state ≠ .free ∧ x.holder = some it.id ∧ x.block ∈ ks'
      · have later : x.block ∉ ks := fun h => mine ⟨more.1, more.2.1, h⟩
        simp [more, later]
      · have neither : ¬ (x.state ≠ .free ∧ x.holder = some it.id ∧ x.block ∈ ks ++ ks') := fun ⟨used, own, h⟩ =>
          (List.mem_append.mp h).elim (fun h => mine ⟨used, own, h⟩) fun h => more ⟨used, own, h⟩
        simp only [Function.comp, if_neg mine, if_neg more, if_neg neither]
  calc completed { it with blocksDone := it.blocksDone + ks.length } rest e ks' (completed it rest e ks s)
    _ = ((s.setQueue ({ it with blocksDone := it.blocksDone + ks.length + ks'.length } :: rest)).setExtents
          (if ks' = [] then (completed it rest e ks s).extents else (completed it rest e ks s).extents.set e
            { (completed it rest e ks s).extents.getD e Extent.blank with rf := true, ch := true })).setSlots
          ((s.slots.map fun x =>
            if x.state ≠ .free ∧ x.holder = some it.id ∧ x.block ∈ ks then x.release else x).map fun x =>
              if x.state ≠ .free ∧ x.holder = some it.id ∧ x.block ∈ ks' then x.release else x) := rfl
    _ = completed it rest e (ks ++ ks') s := by
      rw [extents, slots, queue]
      rfl

theorem State.completeBlock_eq (k : Nat) (s : State) (front : s.queue = it :: rest) (extent : it.extent = some e) :
    s.completeBlock k = completed it rest e [k] s := by
  have slots : freeSlot it.id k s.slots = s.slots.map fun x =>
      if x.state ≠ .free ∧ x.holder = some it.id ∧ x.block ∈ [k] then x.release else x := by
    simp only [freeSlot, Slot.serves, decide_eq_true_eq, List.mem_singleton]
  unfold State.completeBlock State.setItemFlags completed
  rw [front, ← slots]
  simp only [extent, State.setFlags, Bool.or_true]
  rfl

theorem State.completeBlocks_eq (ks : List Nat) (s : State) (front : s.queue = it :: rest)
    (extent : it.extent = some e) : s.completeBlocks ks = completed it rest e ks s := by
  induction ks generalizing it s with
  | nil => exact (completed_nil it rest e s front).symm
  | cons k ks ih =>
    have one := State.completeBlock_eq it rest e k s front extent
    have more := ih { it with blocksDone := it.blocksDone + [k].length } (completed it rest e [k] s) rfl extent
    exact (congrArg (State.completeBlocks ks) one).trans (more.trans (completed_completed it rest e [k] ks s))

/-- The flags that a completed block sets move no address (R21). -/
theorem completed_psa (ks : List Nat) (s : State) (o : Nat) :
    ((completed it rest e ks s).entry e).psa o = (s.entry e).psa o := by
  have extents : (completed it rest e ks s).extents = if ks = [] then s.extents
    else s.extents.set e { s.extents.getD e Extent.blank with rf := true, ch := true } := rfl
  have moved (x : Extent) : ({ x with rf := true, ch := true } : Extent).psa o = x.psa o := rfl
  unfold State.entry
  split
  · rw [extents]
    split
    · rfl
    · by_cases inside : e < s.extents.length
      · rw [List.getD_eq_getElem?_getD, List.getElem?_set_self inside]
        exact moved _
      · rw [List.set_eq_of_length_le (Nat.not_lt.mp inside)]
  · rfl

end Completed

/-! ### The ending of an item inside the ending of a pass -/

theorem ended_head (o : ItemOutcome) (c : WriteCause) (it : WorkItem) (s : State) :
    (ended o c it s).head = s.head := by
  rw [← State.finishItem_eq_ended]
  exact ((State.finishItem_same false it o c s).2.2.2.2.2.2.1 rfl).1

section GoesOn

variable {s : State} {it : WorkItem} {rest : List WorkItem} (front : s.queue = it :: rest)
include front

theorem State.endItem_eq (o : ItemOutcome) (c : WriteCause) (sent : it.kind = .fetch → it.blocksDone ≤ it.sent) :
    s.endItem o c = (ended o c it (idle s)).settle := by
  have whole : ¬ (it.kind = .fetch ∧ it.sent < it.blocksDone) := fun ⟨fetch, more⟩ =>
    absurd (sent fetch) (Nat.not_le.mpr more)
  rw [← State.finishItem_eq_ended]
  unfold State.endItem
  simp only [State.clearHead_eq_idle, show (idle s).queue = it :: rest from front]
  exact if_neg whole

theorem State.endItem_ends (o : ItemOutcome) (c : WriteCause) (other : it.kind ≠ .fetch) :
    ItemEnds o c it s (s.endItem o c) := by
  rw [State.endItem_eq front o c fun fetch => absurd fetch other]
  exact State.settle_settled _

/-- Where the event closes after the ending of the item, it has closed already. -/
theorem State.endItem_settle_ends (o : ItemOutcome) (c : WriteCause) (other : it.kind ≠ .fetch) :
    ItemEnds o c it s (s.endItem o c).settle := by
  rw [State.endItem_eq front o c fun fetch => absurd fetch other]
  exact State.settle_settle_settled _ (by rw [ended_head]; exact fun h : Activity.idle = .waitingSlot => nomatch h)

theorem State.continueItem_done (done : it.blocksDone = it.count) : s.continueItem = s.endItem .ok .none := by
  unfold State.continueItem
  simp only [front]
  exact if_pos done

theorem State.continueItem_more (more : it.blocksDone < it.count) : s.continueItem = s.formRun := by
  unfold State.continueItem
  simp only [front]
  exact if_neg (Nat.ne_of_lt more)

theorem State.continueItem_place {f : Facts} (place : it.kind = .place) (facts : s.drive.facts = some f) :
    PlaceGoesOn it f s s.continueItem.settle := by
  refine ⟨fun done => ?_, fun more empty => ?_, fun more full placed => ?_⟩
  · rw [State.continueItem_done front done]
    exact State.endItem_settle_ends front _ _ (by rw [place]; decide)
  · rw [State.continueItem_more front more,
      State.formRun_waitsForData front place (by rw [facts]; rfl) empty]
    exact State.settle_settled _
  · obtain ⟨r, formed, begun⟩ := State.formRun_place front place facts full more placed
    rw [State.continueItem_more front more, begun]
    exact ⟨r, formed, State.settle_settled _⟩

theorem State.continueItem_fetch (fetch : it.kind = .fetch) (facts : s.drive.facts.isSome = true) :
    FetchGoesOn it s s.continueItem := by
  refine ⟨fun done => ?_, fun more none => ?_, fun more reading placed => ?_⟩
  · rw [State.continueItem_done front done]
    exact State.endItem_headEnds it rest _ _ s front
  · rw [State.continueItem_more front more, State.formRun_waitsForSlot front fetch facts none]
  · obtain ⟨r, formed, begun⟩ := State.formRun_fetch front fetch facts reading more placed
    rw [State.continueItem_more front more]
    exact ⟨r, formed, begun⟩

theorem State.continueItem_blank (blank : it.kind = .blank) (facts : s.drive.facts.isSome = true) :
    BlankGoesOn it s s.continueItem := by
  refine ⟨fun done => ?_, fun more placed => ?_⟩
  · rw [State.continueItem_done front done]
    exact State.endItem_ends front _ _ (by rw [blank]; decide)
  · obtain ⟨r, formed, begun⟩ := State.formRun_blank front blank facts more placed
    rw [State.continueItem_more front more]
    exact ⟨r, formed, begun⟩

end GoesOn

/-! ### What went before does not count for what goes on -/

section Before

variable {s u : State} {it : WorkItem} {x : Option Run}

theorem itemEnds_setHead {o : ItemOutcome} {c : WriteCause} {h : Head} (same : h.beforeRun = s.head.beforeRun)
    (ends : ItemEnds o c it (s.setHead h) u) : ItemEnds o c it s u := by
  unfold ItemEnds at *
  rwa [idle_setHead same] at ends

theorem headEnds_setHead {o : ItemOutcome} {c : WriteCause} {h : Head} (same : h.beforeRun = s.head.beforeRun)
    (ends : HeadEnds o c it (s.setHead h) u) : HeadEnds o c it s u := by
  refine ⟨fun fetch more => ?_, fun whole => itemEnds_setHead same (ends.2 whole)⟩
  have left := ends.1 fetch more
  rwa [idle_setHead same] at left

theorem placeGoesOn_setRun {f : Facts} (goes : PlaceGoesOn it f (s.setHead { s.head with run := x }) u) :
    PlaceGoesOn it f s u := by
  obtain ⟨done, waits, forms⟩ := goes
  refine ⟨fun all => itemEnds_setHead (h := { s.head with run := x }) rfl (done all), waits, fun more full placed => ?_⟩
  obtain ⟨r, formed, settled⟩ := forms more full placed
  rw [runBegun_setRun] at settled
  exact ⟨r, formed, settled⟩

theorem fetchGoesOn_setRun (goes : FetchGoesOn it (s.setHead { s.head with run := x }) u) : FetchGoesOn it s u := by
  obtain ⟨done, waits, forms⟩ := goes
  refine ⟨fun all => headEnds_setHead (h := { s.head with run := x }) rfl (done all), waits,
    fun more reading placed => ?_⟩
  obtain ⟨r, formed, begun⟩ := forms more reading placed
  rw [runBegun_setRun] at begun
  exact ⟨r, formed, begun⟩

theorem blankGoesOn_setRun (goes : BlankGoesOn it (s.setHead { s.head with run := x }) u) : BlankGoesOn it s u := by
  obtain ⟨done, forms⟩ := goes
  refine ⟨fun all => itemEnds_setHead (h := { s.head with run := x }) rfl (done all), fun more placed => ?_⟩
  obtain ⟨r, formed, begun⟩ := forms more placed
  rw [runBegun_setRun] at begun
  exact ⟨r, formed, begun⟩

theorem relocated_setHead {rest : List WorkItem} {f : Facts} {k p : Nat} {h : Head}
    (same : h.beforeRun = s.head.beforeRun) (taken : Relocated it rest f k p (s.setHead h) u) :
    Relocated it rest f k p s u := by
  have relocations : h.relocations = s.head.relocations := (congrArg Head.relocations same :)
  obtain ⟨chain, more⟩ := taken
  rw [show (s.setHead h).head.relocations = s.head.relocations from relocations] at chain more
  refine ⟨fun limit => itemEnds_setHead same (chain limit), fun below => ?_⟩
  obtain ⟨failed, spare⟩ := more below
  refine ⟨fun c cause => itemEnds_setHead same (failed c cause), fun l given => ?_⟩
  intro s'
  let h' : Head := { h with relocations := s.head.relocations + 1 }
  have raised : h'.beforeRun = s'.head.beforeRun :=
    (congrArg (fun b : Head => { b with relocations := s.head.relocations + 1 }) same :)
  obtain ⟨immediate, deferred⟩ := spare l given
  refine ⟨fun now => ?_, fun loc later found => ?_⟩
  · have begun := runBegun_setHead (s := s'.setHead { s'.head with image := listImage l })
      (h := { h' with image := listImage l }) (congrArg (fun b : Head => { b with image := listImage l }) raised :)
      ⟨1, (List.range (listImage l).length).map fun n => ⟨n, n, .toAct, false, 0⟩, .listImage⟩ .erase [.write, .verify]
    exact (congrArg (Settled · u) begun).mp (immediate now)
  · have begun := runBegun_setHead (s := s') (h := h') raised
      ⟨loc.track, [⟨loc.sector, k, .toAct, false, 0⟩], .rewrite⟩ (placePasses f.kind true).1
      (placePasses f.kind true).2
    exact (congrArg (Settled · u) begun).mp (deferred loc later found)

end Before

/-! ### A failing block taken up (R61 to R66, R109) -/

theorem lookupEntry_replaced (p n : Nat) (es : List ListEntry) (listed : (lookupEntry es p).isSome = true) :
    lookupEntry (es.map fun e => if e.source = p then ⟨p, n⟩ else e) p = some n := by
  induction es with
  | nil => exact nomatch listed
  | cons e es ih =>
    by_cases here : e.source = p
    · simp [lookupEntry, here]
    · simp only [lookupEntry, here, if_false] at listed
      simp [lookupEntry, here, ih listed]

/-- A successful allocation lists the block on the spare that was next. -/
theorem lookupEntry_allocated {spares p : Nat} {l l' : ReplacementList} (given : allocate spares p l = .spare l') :
    lookupEntry l'.entries p = some l.next := by
  unfold allocate at given
  split at given
  · next n found =>
    split at given
    · exact nomatch given
    · cases given
      exact lookupEntry_replaced p l.next l.entries (by rw [found]; rfl)
  · next none =>
    split at given
    · exact nomatch given
    · split at given
      · exact nomatch given
      · cases given
        exact lookupEntry_insertEntry p l.next l.entries none

theorem State.startRewrite_eq {s : State} {it : WorkItem} {rest : List WorkItem} {f : Facts} {k : Nat} {ks : List Nat}
    {p : Place} (front : s.queue = it :: rest) (failing : s.head.failing = k :: ks) (facts : s.drive.facts = some f)
    (placed : s.itemPlace it k = some p) : s.startRewrite = rewriteBegun f k p s := by
  unfold State.startRewrite rewriteBegun
  simp only [front, failing, facts, placed]
  rw [writePasses_eq]
  exact State.startRun_eq _ _ _ _

theorem State.takeUpFailing_relocated {s : State} {it : WorkItem} {rest : List WorkItem} {f : Facts} {k p : Nat}
    {ks : List Nat} (front : s.queue = it :: rest) (other : it.kind ≠ .fetch) (failing : s.head.failing = k :: ks)
    (facts : s.drive.facts = some f) (psa : s.itemPsa it k = some p) :
    Relocated it rest f k p s s.takeUpFailing.settle := by
  have takes : s.takeUpFailing = if s.head.relocations = 3 then s.endItem .writeFailed .chain
      else match allocate f.spares p s.list with
        | .failed c => s.endItem .writeFailed c
        | .spare l =>
          let s := ((s.setList l).setQueue ({ it with replacements := it.replacements + 1 } :: rest)).setHead
            { s.head with relocations := s.head.relocations + 1 }
          if s.profile.listUpdate = .immediate then s.startWriteBack else s.startRewrite := by
    have raise (l : ReplacementList) :
        (s.setList l).mapFront (fun it => { it with replacements := it.replacements + 1 }) =
        (s.setList l).setQueue ({ it with replacements := it.replacements + 1 } :: rest) := by
      unfold State.mapFront
      rw [show (s.setList l).queue = it :: rest from front]
    conv_lhs => unfold State.takeUpFailing; simp only [front, failing, facts, psa, raise]
    rfl
  refine ⟨fun limit => ?_, fun below => ⟨fun c failed => ?_, fun l given => ?_⟩⟩
  · rw [takes, if_pos limit]
    exact State.endItem_settle_ends front _ _ other
  · rw [takes, if_neg below, failed]
    exact State.endItem_settle_ends front _ _ other
  · intro s'
    have spared : s.takeUpFailing =
        if s.profile.listUpdate = .immediate then s'.startWriteBack else s'.startRewrite := by
      rw [takes, if_neg below, given]
      rfl
    refine ⟨fun immediate => ?_, fun loc deferred found => ?_⟩
    · rw [spared, if_pos immediate, State.startWriteBack_eq]
      exact State.settle_settled _
    · have place : s'.itemPlace { it with replacements := it.replacements + 1 } k =
          some { toLocation := loc, q := f.users + s.list.next, listed := true } := by
        have psa' : s'.itemPsa { it with replacements := it.replacements + 1 } k = some p := psa
        unfold State.itemPlace
        rw [psa', show s'.drive.facts = some f from facts]
        unfold placeOf
        simp only [show s'.list = l from rfl, lookupEntry_allocated given, found]
        rfl
      rw [spared, if_neg (by rw [deferred]; decide), State.startRewrite_eq (s := s') rfl failing facts place]
      exact State.settle_settled _

end Sys2Proof.Machine

end

section
/-! The ends of passes: what the run goes on to, the ending of a read round, and of a verify pass (O55, O57, O58). -/
set_option Elab.async false

namespace Sys2Proof.Machine
open Sys2Proof.Safety

/-! ### The last result of a round -/

section Last

variable {s : State} {r : Run} {before after : List Target} {t : Target}

theorem lastAwaited_over (last : LastAwaited r before t after) (t' : Target)
    (done : t'.stage = .good ∨ t'.stage = .bad) :
    roundOver (before ++ t' :: after) = true := by
  refine (roundOver_iff _).mpr fun x member => ?_
  rcases List.mem_append.mp member with h | h
  · exact (last.2.2 x (List.mem_append_left _ h)).2
  · rcases List.mem_cons.mp h with rfl | h
    · exact done
    · exact (last.2.2 x (List.mem_append_right _ h)).2

theorem lastAwaited_alone (last : LastAwaited r before t after) : ∀ x ∈ before ++ after, x.sector ≠ t.sector :=
  fun x member => (last.2.2 x member).1

/-- An awaited result taken as a fail, by the sector ID that overtakes it (R103). -/
theorem exec_overtaken {pass : PassKind} (blank : Bool) (free : s.held = false) (inPass : InPass s pass r)
    (last : LastAwaited r before t after) :
    exec (.sectorIdArrival r.track t.sector blank) s =
      .next (s.setHead (withTargets r (before ++ t.failed :: after) s)).endPassIfOver := by
  obtain ⟨active, due, _, run⟩ := inPass
  have at' : inItsPass r s = s := if_neg (by rw [active]; decide)
  have arrives : exec (.sectorIdArrival r.track t.sector blank) s = .next (s.sectorId r.track t.sector blank) :=
    s.unlessHeld_free _ free
  rw [arrives, State.sectorId_counts t.sector blank run (.inl ⟨active, due⟩), at',
    State.passArrival_again blank last.1 (lastAwaited_alone last) last.2.1,
    State.mapTargetAt_split _ run last.1 (lastAwaited_alone last)]

/-- An uncorrectable read, or the sector ID that overtakes it. -/
theorem exec_readFails {i : Instr} (free : s.held = false) (inPass : InPass s .read r)
    (last : LastAwaited r before t after)
    (fails : ResultFails (.readDataEvent r.track t.sector .uncorrectable) r t i) :
    exec i s = .next (s.setHead (withTargets r (before ++ t.failed :: after) s)).endPassIfOver := by
  rcases fails with rfl | ⟨blank, rfl⟩
  · have reads : exec (.readDataEvent r.track t.sector .uncorrectable) s =
        .next (s.readData r.track t.sector .uncorrectable) := s.unlessHeld_free _ free
    rw [reads]
    unfold State.readData
    rw [State.awaitedTarget_split inPass last.1 (lastAwaited_alone last) last.2.1]
    dsimp only
    rw [State.mapTargetAt_split _ inPass.2.2.2 last.1 (lastAwaited_alone last)]
  · exact exec_overtaken blank free inPass last

/-- A delivered block, up to the ending of its round (R13, R112). -/
theorem exec_delivers {it : WorkItem} {rest : List WorkItem} {e : Nat} (d : Block) (n : Nat) (free : s.held = false)
    (inPass : InPass s .read r) (last : LastAwaited r before t after) (blocks : r.work = .blocks)
    (front : s.queue = it :: rest) (extent : it.extent = some e) :
    exec (.readDataEvent r.track t.sector (.delivered d n)) s =
      .next ((received it rest e t.block d n (deliveredBlocks it t.block d s) s).setHead
        (withTargets r (before ++ { t with stage := .good, seen := true } :: after) s)).endPassIfOver := by
  have reads : exec (.readDataEvent r.track t.sector (.delivered d n)) s =
      .next (s.readData r.track t.sector (.delivered d n)) := s.unlessHeld_free _ free
  have delivered := State.deliver_eq (s := s.setHead
    (withTargets r (before ++ { t with stage := .good, seen := true } :: after) s)) t d n front extent
  rw [reads]
  unfold State.readData
  rw [State.awaitedTarget_split inPass last.1 (lastAwaited_alone last) last.2.1]
  dsimp only
  rw [if_neg (by rw [blocks]; decide), State.mapTargetAt_split _ inPass.2.2.2 last.1 (lastAwaited_alone last)]
  exact congrArg (fun u : State => Host.Outcome.next u.endPassIfOver) delivered

/-- A verify result, up to the ending of its round (R108). -/
theorem exec_verifies (isMatch : Bool) (free : s.held = false) (inPass : InPass s .verify r)
    (last : LastAwaited r before t after) :
    exec (.verifyCompareResult r.track t.sector isMatch) s =
      .next (s.setHead (withTargets r
        (before ++ { t with stage := if isMatch then .good else .bad, seen := true } :: after) s)).endPassIfOver := by
  have verifies : exec (.verifyCompareResult r.track t.sector isMatch) s =
      .next (s.verifyResult r.track t.sector isMatch) := s.unlessHeld_free _ free
  rw [verifies]
  unfold State.verifyResult
  rw [State.awaitedTarget_split inPass last.1 (lastAwaited_alone last) last.2.1]
  dsimp only
  rw [State.mapTargetAt_split _ inPass.2.2.2 last.1 (lastAwaited_alone last)]
  rfl

end Last

/-- But for a STORE the arrival that begins a pass leaves what a later run takes over. -/
theorem inItsPass_beforeRun (r : Run) (s : State) (other : r.work ≠ .store) :
    (inItsPass r s).head.beforeRun = s.head.beforeRun := by
  unfold inItsPass passBegun
  split
  · dsimp only [State.setHead_head]
    rw [if_neg fun h => other h.1]
    rfl
  · rfl

theorem inItsPass_eq (r : Run) (s : State) : inItsPass r s = s.setHead (inItsPass r s).head := by
  unfold inItsPass
  split <;> rfl

/-! ### The ending of a read round (R112) -/

section Round

variable {v s : State} {r : Run} {ts : List Target}

theorem State.readRoundEnds_again (more : ∃ x ∈ ts, Retried x) :
    (v.setHead (withTargets r ts s)).readRoundEnds { r with targets := ts } = v.setHead (roundAgain r ts s) := by
  have again : ts.any (fun t => decide (t.stage = .bad ∧ t.attempts < 3)) = true := by
    obtain ⟨x, member, retried⟩ := more
    exact List.any_eq_true.mpr ⟨x, member, decide_eq_true (p := x.stage = .bad ∧ x.attempts < 3) retried⟩
  exact if_pos again

theorem State.readRoundEnds_spent (u : State) (none : ∀ x ∈ ts, ¬ Retried x) :
    u.readRoundEnds { r with targets := ts } =
      if ts.any (fun t => decide (t.stage = .bad)) = true then u.endTask .readFailed .none
      else match u.head.task with
        | .controlRead c => u.controlReadDone c
        | .none => u
        | .item => u.continueItem
        | .writeBack _ => u := by
  have spent : ¬ ts.any (fun t => decide (t.stage = .bad ∧ t.attempts < 3)) = true := fun h => by
    obtain ⟨x, member, retried⟩ := List.any_eq_true.mp h
    exact none x member (of_decide_eq_true (p := x.stage = .bad ∧ x.attempts < 3) retried)
  exact if_neg spent

theorem State.readRoundEnds_failed (u : State) (none : ∀ x ∈ ts, ¬ Retried x) (some : ∃ x ∈ ts, x.stage = .bad) :
    u.readRoundEnds { r with targets := ts } = u.endTask .readFailed .none := by
  obtain ⟨x, member, bad⟩ := some
  rw [State.readRoundEnds_spent u none, if_pos (List.any_eq_true.mpr ⟨x, member, decide_eq_true bad⟩)]

theorem State.readRoundEnds_good (u : State) (all : ∀ x ∈ ts, x.stage = .good) :
    u.readRoundEnds { r with targets := ts } = match u.head.task with
      | .controlRead c => u.controlReadDone c
      | .none => u
      | .item => u.continueItem
      | .writeBack _ => u := by
  have good : ¬ ts.any (fun t => decide (t.stage = .bad)) = true := fun h => by
    obtain ⟨x, member, bad⟩ := List.any_eq_true.mp h
    exact nomatch (all x member).symm.trans (of_decide_eq_true bad)
  have none : ∀ x ∈ ts, ¬ Retried x := fun x member retried => nomatch (all x member).symm.trans retried.1
  rw [State.readRoundEnds_spent u none, if_neg good]

end Round

/-- The ending of a read pass that failed, of the item in service. -/
theorem endTask_ends {v s : State} {r : Run} {it : WorkItem} (ts : List Target) (o : ItemOutcome) (c : WriteCause)
    (head : v.head = s.head) (blocks : r.work ≠ .listImage) (item : s.head.task = .item)
    (front : v.queue.head? = some it) :
    HeadEnds o c it v ((v.setHead (withTargets r ts s)).endTask o c) := by
  have serves : Serves it (v.setHead (withTargets r ts s)) :=
    ⟨item, front, fun h => blocks (Option.some.inj h)⟩
  refine headEnds_setHead (h := withTargets r ts s) ?_ (State.endTask_serves o c serves)
  rw [head]
  rfl

/-! ### The pass that follows (R103) -/

theorem State.nextPass_eq {u : State} {r : Run} {ts : List Target} {p : PassKind} {ps : List PassKind}
    (run : u.head.run = some { r with targets := ts }) (later : u.head.later = p :: ps)
    (same : ts.map Target.fresh = r.targets.map Target.fresh) : u.nextPass = nextPassAwaited r p ps u := by
  have targets : u.head.targets = ts := by simp [Head.targets, run]
  unfold State.nextPass
  simp only [later]
  rw [State.meetBias_eq]
  unfold State.mapHead Head.setTargets nextPassAwaited
  dsimp only
  rw [targets, run, same]
  rfl

theorem fresh_acted (before after : List Target) (t : Target) (stage : Stage) (seen : Bool) :
    (before ++ { t with stage := stage, seen := seen } :: after).map Target.fresh =
      (before ++ t :: after).map Target.fresh := by
  rw [List.map_append, List.map_append]
  rfl

/-! ### Slots written (R107, R128) -/

/-- The slots of the run's blocks, one target after another. -/
def writtenSlots (id : Nat) (ts : List Target) (sl : List Slot) : List Slot :=
  ts.foldl (fun sl t => if slotState id t.block sl = .full then moveSlot id t.block .written sl else sl) sl

theorem State.slotsWritten_eq {s : State} {it : WorkItem} {rest : List WorkItem} (front : s.queue = it :: rest)
    (ts : List Target) : s.slotsWritten ts = s.setSlots (writtenSlots it.id ts s.slots) := by
  unfold State.slotsWritten
  simp only [front]
  rfl

theorem moveSlot_released (id k : Nat) (ks : List Nat) (member : k ∈ ks) (sl : List Slot) :
    ((moveSlot id k .written sl).map fun x =>
      if x.state ≠ .free ∧ x.holder = some id ∧ x.block ∈ ks then x.release else x) =
    sl.map fun x => if x.state ≠ .free ∧ x.holder = some id ∧ x.block ∈ ks then x.release else x := by
  unfold moveSlot
  rw [List.map_map]
  refine List.map_congr_left fun x _ => ?_
  by_cases mine : x.state ≠ .free ∧ x.holder = some id ∧ x.block = k
  · obtain ⟨used, own, here⟩ := mine
    simp [Slot.serves, used, own, here, member, Slot.release]
  · have other : x.serves id k = false := by simpa [Slot.serves] using mine
    simp [other]

/-- The written slots of the blocks that are then freed are the slots freed. -/
theorem writtenSlots_released (id : Nat) (ks : List Nat) (ts : List Target) (sub : ∀ t ∈ ts, t.block ∈ ks)
    (sl : List Slot) :
    ((writtenSlots id ts sl).map fun x =>
      if x.state ≠ .free ∧ x.holder = some id ∧ x.block ∈ ks then x.release else x) =
    sl.map fun x => if x.state ≠ .free ∧ x.holder = some id ∧ x.block ∈ ks then x.release else x := by
  induction ts generalizing sl with
  | nil => rfl
  | cons t ts ih =>
    refine (ih (fun x member => sub x (.tail _ member)) _).trans ?_
    dsimp only
    split
    · exact moveSlot_released id t.block ks (sub t (.head _)) sl
    · rfl

/-- The slots of the item `id` that hold a block of `ks` are WRITTEN. -/
def markWritten (id : Nat) (ks : List Nat) (sl : List Slot) : List Slot :=
  sl.map fun x => if x.holder = some id ∧ x.block ∈ ks then { x with state := .written } else x

theorem slotState_eq_of_all (id k : Nat) (st : SlotState) (used : st ≠ .free) (sl : List Slot)
    (all : ∀ x ∈ sl, x.holder = some id → x.block = k → x.state = st) :
    slotState id k sl = st ∨ slotState id k sl = .free ∧ ∀ x ∈ sl, ¬ (x.holder = some id ∧ x.block = k) := by
  induction sl with
  | nil => exact .inr ⟨rfl, fun x member => nomatch member⟩
  | cons x xs ih =>
    unfold slotState
    by_cases mine : x.holder = some id ∧ x.block = k
    · have state := all x (.head _) mine.1 mine.2
      have serves : x.serves id k = true := by simp [Slot.serves, mine, state, used]
      rw [if_pos serves]
      exact .inl state
    · have other : ¬ x.serves id k = true := fun h => by
        simp only [Slot.serves, decide_eq_true_eq] at h
        exact mine h.2
      rw [if_neg other]
      refine (ih fun y member => all y (.tail _ member)).imp_right fun ⟨free, nobody⟩ => ⟨free, fun y member => ?_⟩
      rcases List.mem_cons.mp member with rfl | member
      · exact mine
      · exact nobody y member

/-- One block more is WRITTEN: its slot was FULL, or the block has been dealt with already. -/
theorem markWritten_step (id k : Nat) (done : List Nat) (sl : List Slot)
    (full : ∀ x ∈ sl, x.holder = some id → x.block = k → x.block ∉ done → x.state = .full) :
    (if slotState id k (markWritten id done sl) = .full then moveSlot id k .written (markWritten id done sl)
      else markWritten id done sl) = markWritten id (done ++ [k]) sl := by
  by_cases known : k ∈ done
  · have written := slotState_eq_of_all id k .written (by decide) (markWritten id done sl) fun x member own here => by
      obtain ⟨y, _, rfl⟩ := List.mem_map.mp member
      by_cases mine : y.holder = some id ∧ y.block ∈ done
      · rw [if_pos mine]
      · rw [if_neg mine] at own here
        exact absurd ⟨own, here ▸ known⟩ mine
    have calm : slotState id k (markWritten id done sl) ≠ .full := by
      rcases written with h | ⟨h, _⟩ <;> rw [h] <;> decide
    have same (x : Slot) : x.block ∈ done ++ [k] ↔ x.block ∈ done := by
      simp only [List.mem_append, List.mem_singleton, or_iff_left_iff_imp]
      exact fun here => here ▸ known
    rw [if_neg calm]
    simp only [markWritten, same]
  · have kept (x : Slot) (here : x.block = k) : ¬ (x.holder = some id ∧ x.block ∈ done) := fun h => known (here ▸ h.2)
    have fulls := slotState_eq_of_all id k .full (by decide) (markWritten id done sl) fun x member own here => by
      obtain ⟨y, inside, rfl⟩ := List.mem_map.mp member
      by_cases mine : y.holder = some id ∧ y.block ∈ done
      · rw [if_pos mine] at here
        exact absurd mine (kept y here)
      · rw [if_neg mine] at own here ⊢
        exact full y inside own here fun old => known (here ▸ old)
    have other (x : Slot) (different : ¬ (x.holder = some id ∧ x.block = k)) :
        (x.holder = some id ∧ x.block ∈ done ++ [k]) ↔ (x.holder = some id ∧ x.block ∈ done) := by
      simp only [List.mem_append, List.mem_singleton]
      tauto
    rcases fulls with moves | ⟨free, nobody⟩
    · rw [if_pos moves]
      unfold moveSlot markWritten
      rw [List.map_map]
      refine List.map_congr_left fun x member => ?_
      by_cases mine : x.holder = some id ∧ x.block = k
      · have state : x.state = .full := full x member mine.1 mine.2 fun old => known (mine.2 ▸ old)
        have serves : x.serves id k = true := by simp [Slot.serves, mine, state]
        simp only [Function.comp, if_neg (kept x mine.2), serves, if_true]
        rw [if_pos ⟨mine.1, List.mem_append_right _ (List.mem_singleton.mpr mine.2)⟩]
      · have still : ∀ y : Slot, y.holder = x.holder → y.block = x.block → y.serves id k = false := fun y own here => by
          rw [Bool.eq_false_iff]
          intro serves
          simp only [Slot.serves, decide_eq_true_eq] at serves
          exact mine ⟨own ▸ serves.2.1, here ▸ serves.2.2⟩
        simp only [Function.comp, other x mine]
        split
        · exact if_neg (Bool.eq_false_iff.mp (still { x with state := .written } rfl rfl))
        · exact if_neg (Bool.eq_false_iff.mp (still x rfl rfl))
    · rw [if_neg (by rw [free]; decide)]
      refine List.map_congr_left fun x member => ?_
      have different : ¬ (x.holder = some id ∧ x.block = k) := fun mine => by
        refine nobody x (List.mem_map.mpr ⟨x, member, if_neg (kept x mine.2)⟩) mine
      simp only [other x different]

/-- With every slot of the targets' blocks FULL, they are then WRITTEN. -/
theorem writtenSlots_full (id : Nat) (sl : List Slot) (ts : List Target) (done : List Nat)
    (full : ∀ x ∈ sl, x.holder = some id → (∃ t ∈ ts, t.block = x.block) → x.block ∉ done → x.state = .full) :
    writtenSlots id ts (markWritten id done sl) = markWritten id (done ++ ts.map Target.block) sl := by
  induction ts generalizing done with
  | nil => simp [writtenSlots]
  | cons t ts ih =>
    have step : (if slotState id t.block (markWritten id done sl) = .full
        then moveSlot id t.block .written (markWritten id done sl) else markWritten id done sl) =
        markWritten id (done ++ [t.block]) sl :=
      markWritten_step id t.block done sl fun x member own here new =>
        full x member own ⟨t, .head _, here.symm⟩ new
    have later := ih (done ++ [t.block]) fun x member own more new => full x member own
      (more.imp fun y h => ⟨.tail _ h.1, h.2⟩) fun h => new (List.mem_append_left _ h)
    refine Eq.trans ?_ (later.trans (by rw [List.append_assoc]; rfl))
    exact congrArg (writtenSlots id ts) step

/-- Slots that are WRITTEN already stay as they are. -/
theorem writtenSlots_written (id : Nat) (sl : List Slot) (ts : List Target)
    (written : ∀ x ∈ sl, x.holder = some id → (∃ t ∈ ts, t.block = x.block) → x.state = .written) :
    writtenSlots id ts sl = sl := by
  induction ts with
  | nil => rfl
  | cons t ts ih =>
    have calm : slotState id t.block sl ≠ .full := by
      rcases slotState_eq_of_all id t.block .written (by decide) sl fun x member own here =>
        written x member own ⟨t, .head _, here.symm⟩ with h | ⟨h, _⟩ <;> rw [h] <;> decide
    have rest := ih fun x member own more => written x member own (more.imp fun y h => ⟨.tail _ h.1, h.2⟩)
    exact (congrArg (writtenSlots id ts) (if_neg calm)).trans rest

theorem markWritten_nil (id : Nat) (sl : List Slot) : markWritten id [] sl = sl := by simp [markWritten]

theorem markWritten_written (id : Nat) (ks : List Nat) (sl : List Slot)
    (written : ∀ x ∈ sl, x.holder = some id → x.block ∈ ks → x.state = .written) : markWritten id ks sl = sl := by
  refine (List.map_congr_left fun x member => ?_).trans (List.map_id _)
  split
  · next mine =>
    rw [← written x member mine.1 mine.2]
    rfl
  · rfl

/-! ### The ending of a verify pass (R108, R109) -/

/-- What the ending of a verify pass reads of a target. -/
def Target.verdict (t : Target) : Nat × Stage := (t.block, t.stage)

section Verified

variable {s : State} {it : WorkItem} {rest : List WorkItem} {e o : Nat}

theorem takeWhile_good_verdicts (ts : List Target) :
    (ts.takeWhile fun t => decide (t.stage = .good)).map Target.block =
      ((ts.map Target.verdict).takeWhile fun p => decide (p.2 = .good)).map Prod.fst := by
  rw [List.takeWhile_map, List.map_map]
  rfl

theorem dropWhile_good_verdicts (ts : List Target) :
    (ts.dropWhile fun t => decide (t.stage = .good)).map Target.verdict =
      (ts.map Target.verdict).dropWhile fun p => decide (p.2 = .good) := by
  rw [List.dropWhile_map]
  rfl

theorem filter_verdicts (q : Stage → Bool) (ts : List Target) :
    (ts.filter fun t => q t.stage).map Target.block =
      ((ts.map Target.verdict).filter fun p => q p.2).map Prod.fst := by
  rw [List.filter_map, List.map_map]
  rfl

theorem State.blocksVerified_congr {ts ts' : List Target} (same : ts.map Target.verdict = ts'.map Target.verdict) :
    s.blocksVerified ts = s.blocksVerified ts' := by
  have rests : (ts.dropWhile fun t => decide (t.stage = .good)).map Target.verdict =
      (ts'.dropWhile fun t => decide (t.stage = .good)).map Target.verdict := by
    rw [dropWhile_good_verdicts, dropWhile_good_verdicts, same]
  unfold State.blocksVerified
  dsimp only
  rw [takeWhile_good_verdicts ts, takeWhile_good_verdicts ts', same]
  revert rests
  generalize (ts.dropWhile fun t => decide (t.stage = .good)) = xs
  generalize (ts'.dropWhile fun t => decide (t.stage = .good)) = ys
  intro rests
  rw [filter_verdicts (fun st => decide (st ≠ .good)) xs, filter_verdicts (fun st => decide (st = .good)) xs,
    filter_verdicts (fun st => decide (st ≠ .good)) ys, filter_verdicts (fun st => decide (st = .good)) ys, rests]
  match xs, ys with
  | [], [] => rfl
  | _ :: _, _ :: _ => rfl

theorem all_good_verdicts (ts : List Target) : (ts.all fun t => decide (t.stage = .good)) =
    (ts.map Target.verdict).all fun p => decide (p.2 = .good) := by
  rw [List.all_map]
  rfl

section Front

variable (front : s.queue = it :: rest) (extent : it.extent = some e)
include front extent

theorem State.blocksVerified_good {ts : List Target} (all : ∀ x ∈ ts, x.stage = .good) :
    s.blocksVerified ts = (completed it rest e (ts.map Target.block) s).continueItem := by
  have whole : (ts.takeWhile fun t => decide (t.stage = .good)) = ts :=
    List.takeWhile_eq_self_iff.mpr fun x member => decide_eq_true (all x member)
  have spent : (ts.dropWhile fun t => decide (t.stage = .good)) = [] :=
    List.dropWhile_eq_nil_iff.mpr fun x member => decide_eq_true (all x member)
  unfold State.blocksVerified
  dsimp only
  rw [whole, spent, State.completeBlocks_eq it rest e _ s front extent]

theorem State.blocksVerified_bad {lead others : List Target} {x : Target} (good : ∀ y ∈ lead, y.stage = .good)
    (bad : x.stage = .bad) (known : ∀ y ∈ others, y.stage = .good ∨ y.stage = .bad) :
    s.blocksVerified (lead ++ x :: others) =
      ((completed it rest e (lead.map Target.block) s).setHead { s.head with
        failing := x.block :: (others.filter fun y => decide (y.stage = .bad)).map Target.block
        matched := (others.filter fun y => decide (y.stage = .good)).map Target.block
        relocations := 0 }).takeUpFailing := by
  have stops : ¬ decide (x.stage = .good) = true := by rw [bad]; decide
  have leads : ((lead ++ x :: others).takeWhile fun t => decide (t.stage = .good)) = lead := by
    rw [List.takeWhile_append_of_pos fun y member => decide_eq_true (good y member),
      List.takeWhile_cons_of_neg (p := fun y : Target => decide (y.stage = .good)) stops,
      List.append_nil]
  have tail : ((lead ++ x :: others).dropWhile fun t => decide (t.stage = .good)) = x :: others := by
    rw [List.dropWhile_append_of_pos fun y member => decide_eq_true (good y member),
      List.dropWhile_cons_of_neg (p := fun y : Target => decide (y.stage = .good)) stops]
  have fails : ((x :: others).filter fun t => decide (t.stage ≠ .good)) =
      x :: others.filter fun y => decide (y.stage = .bad) := by
    rw [List.filter_cons_of_pos (by rw [bad]; decide)]
    refine congrArg _ (List.filter_congr fun y member => ?_)
    rcases known y member with stage | stage <;> rw [stage] <;> rfl
  have matches' : ((x :: others).filter fun t => decide (t.stage = .good)) =
      others.filter fun y => decide (y.stage = .good) := List.filter_cons_of_neg stops
  unfold State.blocksVerified
  dsimp only
  rw [leads, tail, State.completeBlocks_eq it rest e _ s front extent, fails, matches']
  rfl

theorem State.rewriteVerified_last {k : Nat} (failing : s.head.failing = [k]) :
    s.rewriteVerified true = ((completed it rest e (k :: s.head.matched) s).setHead
      { s.head with failing := [], matched := [], relocations := 0 }).continueItem := by
  let w : State := (completed it rest e [k] s).setHead { s.head with failing := [], relocations := 0 }
  have one : s.rewriteVerified true = w.afterRewrite := by
    unfold State.rewriteVerified
    rw [if_pos rfl, failing]
    dsimp only
    rw [State.completeBlock_eq it rest e k s front extent]
    rfl
  have more := State.completeBlocks_eq { it with blocksDone := it.blocksDone + [k].length } rest e s.head.matched w rfl
    extent
  have joined := congrArg (State.setHead w.head) (completed_completed it rest e [k] s.head.matched s)
  rw [one]
  exact congrArg (fun u : State => (u.mapHead fun h => { h with matched := [] }).continueItem) (more.trans joined)

theorem State.rewriteVerified_next {k g : Nat} {ks : List Nat} (failing : s.head.failing = k :: g :: ks) :
    s.rewriteVerified true =
      ((completed it rest e (k :: s.head.matched.takeWhile fun m => decide (m < g)) s).setHead { s.head with
        failing := g :: ks
        matched := s.head.matched.drop (s.head.matched.takeWhile fun m => decide (m < g)).length
        relocations := 0 }).takeUpFailing := by
  let w : State := (completed it rest e [k] s).setHead { s.head with failing := g :: ks, relocations := 0 }
  have one : s.rewriteVerified true = w.afterRewrite := by
    unfold State.rewriteVerified
    rw [if_pos rfl, failing]
    dsimp only
    rw [State.completeBlock_eq it rest e k s front extent]
    rfl
  have more := State.completeBlocks_eq { it with blocksDone := it.blocksDone + [k].length } rest e
    (s.head.matched.takeWhile fun m => decide (m < g)) w rfl extent
  have joined := congrArg (State.setHead w.head)
    (completed_completed it rest e [k] (s.head.matched.takeWhile fun m => decide (m < g)) s)
  have dropped : s.head.matched.drop (s.head.matched.takeWhile fun m => decide (m < g)).length =
      s.head.matched.dropWhile fun m => decide (m < g) := by
    have cut := List.drop_left (l₁ := s.head.matched.takeWhile fun m => decide (m < g))
      (l₂ := s.head.matched.dropWhile fun m => decide (m < g))
    rwa [List.takeWhile_append_dropWhile] at cut
  rw [one, dropped]
  exact congrArg (fun u : State => (u.mapHead fun h =>
    { h with matched := h.matched.dropWhile fun m => decide (m < g) }).takeUpFailing) (more.trans joined)

end Front

theorem itemPsa_completed (ks : List Nat) (s : State) (k : Nat) (extent : it.extent = some e)
    (first : it.first = some o) :
    (completed it rest e ks s).itemPsa { it with blocksDone := it.blocksDone + ks.length } k =
      some ((s.entry e).psa (o + k)) := by
  unfold State.itemPsa
  simp only [extent, first]
  rw [completed_psa]

end Verified

end Sys2Proof.Machine

section

open Sys2Proof Sys2Proof.Machine Sys2Proof.Safety

/-- Settles O57. -/
theorem readRoundsEnd : Obligations.ReadRoundsEnd := by
  unfold Obligations.ReadRoundsEnd
  intro s r t before after free inPass last event failed fine
  have kind := inPass.2.2.1
  have ends (v : State) (ts : List Target) (over' : roundOver ts = true) :
      (v.setHead (withTargets r ts s)).endPassIfOver =
        (v.setHead (withTargets r ts s)).readRoundEnds { r with targets := ts } := by
    refine (State.endPassIfOver_over (r := { r with targets := ts }) rfl over').trans ?_
    rw [show (v.setHead (withTargets r ts s)).head.pass = .read from kind]
  refine ⟨fun i fails => ?_, fun it rest e d n blocks item front fetch extent bound =>
    ⟨deliveredBlocks it t.block d s, deliveredBlocks_leading it rest e t.block d n s bound, ?_⟩⟩
  · have runs : exec i s = .next (s.setHead (withTargets r failed s)).endPassIfOver :=
      exec_readFails free inPass last fails
    rw [ends s failed (lastAwaited_over last t.failed (.inr rfl))] at runs
    refine ⟨fun more => runs.trans (congrArg _ (State.readRoundEnds_again more)),
      fun it blocks serves none => ⟨_, runs, ?_⟩⟩
    rw [State.readRoundEnds_failed _ none ⟨_, List.mem_append_right _ (.head _), rfl⟩]
    exact endTask_ends _ _ _ rfl (by rw [blocks]; decide) serves.1 serves.2.1
  · intro v it'
    have runs : event (.delivered d n) = .next (v.setHead (withTargets r fine s)).endPassIfOver :=
      exec_delivers d n free inPass last blocks front extent
    rw [ends v fine (lastAwaited_over last { t with stage := .good, seen := true } (.inl rfl))] at runs
    refine ⟨fun more => runs.trans (congrArg _ (State.readRoundEnds_again more)),
      fun none some => ⟨_, runs, ?_⟩, fun all facts => ⟨_, runs, ?_⟩⟩
    · rw [State.readRoundEnds_failed _ none some]
      exact endTask_ends (v := v) _ _ _ rfl (by rw [blocks]; decide) item rfl
    · rw [State.readRoundEnds_good _ all, show (v.setHead (withTargets r fine s)).head.task = .item from item]
      exact fetchGoesOn_setRun (State.continueItem_fetch (s := v.setHead (withTargets r fine s)) rfl fetch facts)

/-- Settles O55. -/
theorem passesEndAndTheRunGoesOn : Obligations.PassesEndAndTheRunGoesOn := by
  unfold Obligations.PassesEndAndTheRunGoesOn
  intro s r before after t blank free run counts next arrival s' last zoned data erased wrote
  have arrives : arrival = .next (s'.actOnTarget r t blank) := by
    have runs : arrival = .next (s.sectorId r.track t.sector blank) := s.unlessHeld_free _ free
    rw [runs, State.sectorId_counts t.sector blank run counts, State.passArrival_acts blank next]
  obtain ⟨split, due, _, alone, _⟩ := next
  have run' : s'.head.run = some r := (inItsPass_run r s).trans run
  have pass' (p : PassKind) (pass : s.head.pass = p) : s'.head.pass = p := (inItsPass_pass r s).trans pass
  have later' (ps : List PassKind) (later : s.head.later = ps) : s'.head.later = ps :=
    (inItsPass_later r s).trans later
  have front' (q : List WorkItem) (front : s.queue = q) : s'.queue = q := (inItsPass_queue r s).trans front
  have data_eq : s'.targetData r t = data := by
    rw [State.targetData_eq, inItsPass_queue, inItsPass_slots]
  have port : s'.port = s.port := inItsPass_port r s
  have drive : s'.drive = s.drive := (congrArg State.drive (inItsPass_back r s) :)
  have whole : s' = s.setHead s'.head := inItsPass_eq r s
  let ts : List Target := before ++ { t with stage := .good, seen := true } :: after
  have over' (h : last) : roundOver ts = true := by
    refine (roundOver_iff _).mpr fun x member => ?_
    rcases List.mem_append.mp member with h' | h'
    · exact .inl (h.2 x h')
    · rcases List.mem_cons.mp h' with rfl | h'
      · exact .inl rfl
      · exact nomatch (h.1 ▸ h' : x ∈ [])
  have fresh : ts.map Target.fresh = r.targets.map Target.fresh := by
    rw [split]
    exact fresh_acted before after t .good true
  have blocks : ts.map Target.block = r.targets.map Target.block := by
    rw [split, List.map_append, List.map_append]
    rfl
  have erases (pass : s.head.pass = .erase) :
      arrival = .next (erased.setHead (withTargets r ts s')).endPassIfOver := by
    rw [arrives, State.actOnTarget_erase blank run' split alone (pass' _ pass), port]
    rfl
  have writes (pass : s.head.pass = .write) :
      arrival = .next (wrote.setHead (withTargets r ts s')).endPassIfOver := by
    rw [arrives, State.actOnTarget_write blank run' split alone (pass' _ pass), data_eq, port]
    rfl
  have ends (v : State) (h : last) : (v.setHead (withTargets r ts s')).endPassIfOver = match s.head.pass with
      | .erase => (v.setHead (withTargets r ts s')).nextPass
      | .write => (v.setHead (withTargets r ts s')).writeEnds { r with targets := ts }
      | .verify => (v.setHead (withTargets r ts s')).verifyEnds { r with targets := ts }
      | .blankCheck => (v.setHead (withTargets r ts s')).blankCheckEnds
      | .read => (v.setHead (withTargets r ts s')).readRoundEnds { r with targets := ts } := by
    rw [← show (v.setHead (withTargets r ts s')).head.pass = s.head.pass from inItsPass_pass r s]
    exact State.endPassIfOver_over (r := { r with targets := ts }) rfl (over' h)
  have goes (v : State) (head : v.head = s'.head) (p : PassKind) (ps : List PassKind) (later : s.head.later = p :: ps) :
      (v.setHead (withTargets r ts s')).nextPass = nextPassAwaited r p ps v := by
    rw [State.nextPass_eq (u := v.setHead (withTargets r ts s')) (r := r) (ts := ts) rfl (later' _ later) fresh]
    unfold nextPassAwaited
    rw [head]
    rfl
  have direct (h : zoned) : r.work.zoned = true := by
    rcases h with work | work <;> rw [work] <;> rfl
  refine ⟨fun p ps pass h later => ?_, fun p ps pass h control later => ?_,
    fun it rest p ps pass h zone later front => ?_,
    fun it rest e f pass h zone later item front place extent facts => ?_,
    fun p ps pass h found later => ?_, fun it rest e pass h found later item front kind extent facts => ?_,
    fun it rest e next more pass found later tail due front extent => ?_, fun it pass found work serves => ?_,
    fun it rest e o f k ks pass found work item front place extent first facts failing => ?_⟩
  · have step := ends erased h
    rw [pass] at step
    rw [erases pass, step, goes erased rfl p ps later]
  · have step := ends wrote h
    rw [pass] at step
    have control' : r.work.zoned = false := by
      cases work : r.work <;> simp [zoned, work] at control <;> rfl
    rw [writes pass, step]
    refine congrArg _ ((if_neg ?_).trans (goes wrote rfl p ps later))
    exact Bool.eq_false_iff.mp control'
  · intro mine same
    have step := ends wrote h
    rw [pass] at step
    have full : writtenSlots it.id ts s.slots = markWritten it.id (r.targets.map Target.block) s.slots := by
      have taken (x : Slot) : (∃ y ∈ ts, y.block = x.block) ↔ ∃ y ∈ r.targets, y.block = x.block := by
        rw [← List.mem_map, ← List.mem_map, blocks]
      rcases same with full | written
      · have moved := writtenSlots_full it.id s.slots ts [] fun x member own more _ =>
          full x member ⟨own, (taken x).mp more⟩
        rwa [markWritten_nil, List.nil_append, blocks] at moved
      · rw [writtenSlots_written it.id s.slots ts fun x member own more => written x member ⟨own, (taken x).mp more⟩,
          markWritten_written _ _ _ fun x member own inside => written x member ⟨own, List.mem_map.mp inside⟩]
    refine ⟨markWritten it.id (r.targets.map Target.block) s.slots, List.length_map _, fun j x at' => ?_, ?_⟩
    · have mine_iff : mine x ↔ x.holder = some it.id ∧ x.block ∈ r.targets.map Target.block :=
        and_congr_right fun _ => List.mem_map.symm
      simp only [mine_iff, markWritten, List.getElem?_map, at', Option.map_some]
      exact ⟨fun h => by rw [if_pos h], fun h => by rw [if_neg h]⟩
    · have slots : (wrote.setHead (withTargets r ts s')).slotsWritten ts = ((wrote.setSlots
          (markWritten it.id (r.targets.map Target.block) s.slots)).setHead (withTargets r ts s')) := by
        rw [State.slotsWritten_eq (s := wrote.setHead (withTargets r ts s')) (front' _ front), ← full,
          show (wrote.setHead (withTargets r ts s')).slots = s.slots from inItsPass_slots r s]
        rfl
      rw [writes pass, step]
      refine congrArg _ ((if_pos (direct zone)).trans ?_)
      dsimp only
      rw [slots]
      refine (if_neg ?_).trans (goes (wrote.setSlots (markWritten it.id (r.targets.map Target.block) s.slots))
        rfl p ps later)
      exact fun none => nomatch (later' _ later).symm.trans none
  · have step := ends wrote h
    rw [pass] at step
    let v : State := (wrote.setHead (withTargets r ts s')).setSlots (writtenSlots it.id ts s.slots)
    have slots : (wrote.setHead (withTargets r ts s')).slotsWritten ts = v := by
      rw [State.slotsWritten_eq (s := wrote.setHead (withTargets r ts s')) (front' _ front),
        show (wrote.setHead (withTargets r ts s')).slots = s.slots from inItsPass_slots r s]
    have freed := writtenSlots_released it.id (r.targets.map Target.block) ts
      (fun x member => blocks ▸ List.mem_map_of_mem member) s.slots
    have finished : v.completeBlocks (ts.map Target.block) =
        (completed it rest e (r.targets.map Target.block) wrote).setHead (withTargets r ts s') := by
      rw [State.completeBlocks_eq it rest e _ v (front' _ front) extent, blocks]
      unfold completed
      rw [show v.slots = writtenSlots it.id ts s.slots from rfl, freed,
        show wrote.slots = s.slots from inItsPass_slots r s]
      rfl
    let w : State := (completed it rest e (r.targets.map Target.block) wrote).setHead (withTargets r ts s')
    refine ⟨w.continueItem.settle, (writes pass).trans (congrArg _ (step.trans ((if_pos (direct zone)).trans ?_))), ?_⟩
    · dsimp only
      rw [slots]
      exact (if_pos (later' _ later)).trans (congrArg (fun u : State => u.continueItem.settle) finished)
    · have goes := State.continueItem_place
        (s := w) rfl place (drive ▸ facts)
      rw [List.length_map] at goes
      exact placeGoesOn_setRun goes
  · have step := ends s' h
    rw [pass] at step
    rw [arrives, State.actOnTarget_blank blank run' split alone (pass' _ pass) found,
      if_neg (by rw [later' _ later]; nofun)]
    refine congrArg _ (step.trans ((if_neg ?_).trans (goes s' rfl p ps later)))
    exact fun none => nomatch (later' _ later).symm.trans none
  · have step := ends (completed it rest e [t.block] s') h
    rw [pass] at step
    have done : (s'.actedOn r before t after .good).completeBlock t.block =
        (completed it rest e [t.block] s').setHead (withTargets r ts s') :=
      State.completeBlock_eq it rest e t.block (s'.actedOn r before t after .good) (front' _ front) extent
    refine ⟨((completed it rest e [t.block] s').setHead (withTargets r ts s')).continueItem, ?_, ?_⟩
    · rw [arrives, State.actOnTarget_blank blank run' split alone (pass' _ pass) found, if_pos (later' _ later), done]
      exact congrArg _ (step.trans (if_pos (later' _ later)))
    · exact blankGoesOn_setRun (State.continueItem_blank
        (s := (completed it rest e [t.block] s').setHead (withTargets r ts s')) rfl kind (drive ▸ facts))
  · have done : (s'.actedOn r before t after .good).completeBlock t.block =
        completed it rest e [t.block] (s'.setHead (withTargets r ts s')) :=
      State.completeBlock_eq it rest e t.block (s'.actedOn r before t after .good) (front' _ front) extent
    have goesOn : roundOver ts = false :=
      roundOver_open (x := next) (List.mem_append_right _ (.tail _ (tail ▸ .head _))) (.inl due)
    rw [arrives, State.actOnTarget_blank blank run' split alone (pass' _ pass) found, if_pos (later' _ later), done]
    exact congrArg _ (State.endPassIfOver_open (r := { r with targets := ts }) rfl goesOn)
  · have same := inItsPass_beforeRun r s (by rw [work]; decide)
    have queue := front' _ (queue_of_head? serves.2.1)
    have notBlank : s'.notBlank r = if it.kind = .blank then s'.endItem .eraseFailed .none
        else s'.endItem .alreadyWritten .none := by
      unfold State.notBlank
      rw [work]
      dsimp only
      rw [queue]
    have arrives' : arrival = .next (s'.notBlank r) := by
      rw [arrives, State.actOnTarget_notBlank blank (pass' _ pass) found]
    rw [notBlank] at arrives'
    have ends' (o : ItemOutcome) (other : it.kind ≠ .fetch) : ItemEnds o .none it s (s'.endItem o .none) := by
      have ends : ItemEnds o .none it (s.setHead s'.head) (s'.endItem o .none) :=
        whole ▸ State.endItem_ends queue o .none other
      exact itemEnds_setHead same ends
    refine ⟨fun kind => ⟨_, arrives'.trans (congrArg _ (if_pos kind)), ?_⟩,
      fun kind => ⟨_, arrives'.trans (congrArg _ (if_neg (by rw [kind]; decide))), ?_⟩⟩
    · exact ends' _ (by rw [kind]; decide)
    · exact ends' _ (by rw [kind]; decide)
  · have same := inItsPass_beforeRun r s (by rw [work]; decide)
    have arrives' : arrival = .next s'.takeUpFailing.settle := by
      rw [arrives, State.actOnTarget_notBlank blank (pass' _ pass) found]
      unfold State.notBlank
      rw [work]
    have extents : s'.extents = s.extents := (congrArg State.extents (inItsPass_back r s) :)
    have psa : s'.itemPsa it k = some ((s.entry e).psa (o + k)) := by
      unfold State.itemPsa State.entry
      rw [extent, first, extents]
    have relocated := State.takeUpFailing_relocated (s := s') (front' _ front) (by rw [place]; decide)
      ((congrArg Head.failing same :).trans failing) (drive ▸ facts) psa
    refine ⟨_, arrives', ?_⟩
    have relocated' : Relocated it rest f k ((s.entry e).psa (o + k)) (s.setHead s'.head) s'.takeUpFailing.settle :=
      whole ▸ relocated
    exact relocated_setHead same relocated'

/-- Settles O58. -/
theorem aVerifyResultCompletesOrReplacesTheBlock : Obligations.AVerifyResultCompletesOrReplacesTheBlock := by
  unfold Obligations.AVerifyResultCompletesOrReplacesTheBlock
  intro s r before after t isMatch i it rest e o f free item inPass last front place extent first facts event result
    ts psa goesOn
  have known : ∀ x ∈ ts, x.stage = .good ∨ x.stage = .bad := by
    intro x member
    rcases List.mem_append.mp member with h | h
    · exact (last.2.2 x (List.mem_append_left _ h)).2
    · rcases List.mem_cons.mp h with rfl | h
      · cases isMatch
        · exact .inr rfl
        · exact .inl rfl
      · exact (last.2.2 x (List.mem_append_right _ h)).2
  obtain ⟨ts', runs, same, over'⟩ : ∃ ts', result = .next (s.setHead (withTargets r ts' s)).endPassIfOver ∧
      ts'.map Target.verdict = ts.map Target.verdict ∧ roundOver ts' = true := by
    have whole : roundOver ts = true := lastAwaited_over last _ (known _ (List.mem_append_right _ (.head _)))
    rcases event with rfl | ⟨rfl, rfl | ⟨blank, rfl⟩⟩
    · exact ⟨ts, exec_verifies isMatch free inPass last, rfl, whole⟩
    · exact ⟨ts, exec_verifies false free inPass last, rfl, whole⟩
    · refine ⟨before ++ t.failed :: after, exec_overtaken blank free inPass last, ?_,
        lastAwaited_over last t.failed (.inr rfl)⟩
      rw [List.map_append, List.map_append]
      rfl
  let v : State := s.setHead (withTargets r ts' s)
  have verifies : result = .next (v.verifyEnds { r with targets := ts' }) := by
    have ends := State.endPassIfOver_over (s := v) (r := { r with targets := ts' }) rfl over'
    rw [show v.head.pass = .verify from inPass.2.2.1] at ends
    exact runs.trans (congrArg _ ends)
  have blocksEnd (work : r.work = .blocks) : result = .next (v.blocksVerified ts).settle := by
    rw [verifies, ← State.blocksVerified_congr same]
    unfold State.verifyEnds
    rw [work]
  have rewriteEnd (work : r.work = .rewrite) (ok : Bool) (all : (ts.all fun t => decide (t.stage = .good)) = ok) :
      result = .next (v.rewriteVerified ok).settle := by
    rw [verifies, ← all, all_good_verdicts, ← same, ← all_good_verdicts]
    unfold State.verifyEnds
    rw [work]
  have whole (all : ∀ x ∈ ts, x.stage = .good) : (ts.all fun t => decide (t.stage = .good)) = true :=
    List.all_eq_true.mpr fun x member => decide_eq_true (all x member)
  have other : it.kind ≠ .fetch := by rw [place]; decide
  refine ⟨fun work all => ⟨_, blocksEnd work, ?_⟩, fun lead x others work parts good bad => ?_,
    fun k ks work failing some => ⟨_, rewriteEnd work false ?_, ?_⟩,
    fun k work failing all => ?_, fun k g ks work failing all => ?_⟩
  · rw [State.blocksVerified_good (s := v) front extent all]
    have goes := State.continueItem_place (s := completed it rest e (ts.map Target.block) v) rfl place facts
    exact placeGoesOn_setRun goes
  · intro s'
    refine ⟨_, blocksEnd work, ?_⟩
    rw [parts, State.blocksVerified_bad (s := v) front extent good bad fun y member =>
      known y (parts ▸ List.mem_append_right _ (.tail _ member))]
    refine relocated_setHead (s := s') (h := { s'.head with run := v.head.run }) rfl ?_
    exact State.takeUpFailing_relocated rfl other rfl facts
      (itemPsa_completed (rest := rest) (lead.map Target.block) s x.block extent first)
  · obtain ⟨x, member, bad⟩ := some
    refine Bool.eq_false_iff.mpr fun all => ?_
    exact nomatch bad.symm.trans (of_decide_eq_true (List.all_eq_true.mp all x member))
  · refine relocated_setHead (s := s) (h := v.head) rfl ?_
    refine State.takeUpFailing_relocated (s := v) front other failing facts ?_
    exact (by unfold State.itemPsa; simp only [extent, first]; rfl)
  · intro s'
    refine ⟨_, rewriteEnd work true (whole all), ?_⟩
    rw [State.rewriteVerified_last (s := v) front extent failing]
    have goes := State.continueItem_place (s := s'.setHead { s'.head with run := v.head.run }) rfl place facts
    exact placeGoesOn_setRun goes
  · intro ms s'
    refine ⟨_, rewriteEnd work true (whole all), ?_⟩
    rw [State.rewriteVerified_next (s := v) front extent failing]
    refine relocated_setHead (s := s') (h := { s'.head with run := v.head.run }) rfl ?_
    exact State.takeUpFailing_relocated rfl other rfl facts
      (itemPsa_completed (rest := rest) (k :: ms) s g extent first)

end

end

section
/-! Control writes and the control reads of a mount: how each ends (O49, O50). -/
set_option Elab.async false

namespace Sys2Proof.Machine
open Sys2Proof.Safety

/-! ### What a control write leaves its item or its write-back with (R35, R68 to R71) -/

/-- The write-back request is served, or not due (R69, R97). -/
theorem State.serveRequest_passed (s : State) (calm : s.list.request = false ∨ s.head.task ≠ .none) :
    s.serveRequest = s := by
  refine if_neg ?_
  rintro ⟨raised, free⟩
  rcases calm with h | h
  · exact nomatch h.symm.trans raised
  · exact h free

theorem State.serveRequest_clean (s : State) (raised : s.list.request = true) (free : s.head.task = .none)
    (clean : s.list.dirty = false) : s.serveRequest = s.setList { s.list with request := false } :=
  (if_pos ⟨raised, free⟩).trans (if_neg (Bool.eq_false_iff.mp clean))

theorem State.serveRequest_dirty (s : State) (raised : s.list.request = true) (free : s.head.task = .none)
    (dirty : s.list.dirty = true) : s.serveRequest = writeBackBegun
      ((s.setList { s.list with request := false }).setHead { s.head with task := .writeBack .request }) :=
  (if_pos ⟨raised, free⟩).trans ((if_pos dirty).trans (State.startWriteBack_eq _))

theorem rewriteBegun_setHead {s : State} {h : Head} (same : h.beforeRun = s.head.beforeRun) (f : Facts) (k : Nat)
    (p : Place) : rewriteBegun f k p (s.setHead h) = rewriteBegun f k p s := runBegun_setHead same _ _ _

section Write

variable {s : State} {h : Head} {it : WorkItem} (same : h.beforeRun = s.head.beforeRun)
include same

theorem task_of_beforeRun : h.task = s.head.task := (congrArg Head.task same :)

/-- The one block of a STORE or FLUSH item is done and the item ends OK. -/
theorem blockDone_ends (front : s.queue.head? = some it) (other : it.kind ≠ .fetch) :
    ItemEnds .ok .none { it with blocksDone := 1 } s
      (((s.setHead h).mapFront fun it => { it with blocksDone := 1 }).endItem .ok .none) := by
  have queue := queue_of_head? front
  have raised : (s.setHead h).mapFront (fun it => { it with blocksDone := 1 }) =
      (s.setHead h).setQueue ({ it with blocksDone := 1 } :: s.queue.tail) := by
    unfold State.mapFront
    rw [show (s.setHead h).queue = it :: s.queue.tail from queue]
  rw [raised]
  have ends := State.endItem_ends (s := (s.setHead h).setQueue ({ it with blocksDone := 1 } :: s.queue.tail)) rfl
    .ok .none other
  have left : idle ((s.setHead h).setQueue ({ it with blocksDone := 1 } :: s.queue.tail)) =
      (idle s).setQueue ({ it with blocksDone := 1 } :: s.queue.tail) :=
    congrArg (State.setQueue ({ it with blocksDone := 1 } :: s.queue.tail)) (idle_setHead same)
  exact itemEnds_of_front queue rfl rfl left ends

theorem controlWriteDone_store (work : h.run.map Run.work = some .store) (task : s.head.task = .item)
    (front : s.queue.head? = some it) (kind : it.kind = .store) :
    ItemEnds .ok .none { it with blocksDone := 1 } s (s.setHead h).controlWriteDone := by
  have done : (s.setHead h).controlWriteDone =
      ((s.setHead h).mapFront fun it => { it with blocksDone := 1 }).endItem .ok .none := by
    unfold State.controlWriteDone
    simp only [State.setHead_head, work, task_of_beforeRun same, task]
  rw [done]
  exact blockDone_ends same front (by rw [kind]; decide)

/-- A list write-back inside the item in service has succeeded. -/
theorem controlWriteDone_list (work : h.run.map Run.work = some .listImage) (task : s.head.task = .item)
    (front : s.queue.head? = some it) :
    (s.setHead h).controlWriteDone =
      let s' := (s.setList { s.list with dirty := false }).setHead h
      if it.kind = .flush then (s'.mapFront fun it => { it with blocksDone := 1 }).endItem .ok .none
      else (s'.setHead { h with image := [] }).startRewrite := by
  obtain ⟨rest, queue⟩ : ∃ rest, s.queue = it :: rest := ⟨_, queue_of_head? front⟩
  have task' : (s.setHead h).head.task = .item := (task_of_beforeRun same).trans task
  have work' : (s.setHead h).head.run.map Run.work = some .listImage := work
  unfold State.controlWriteDone
  rw [task', work']
  dsimp only [State.mapList]
  rw [State.setList_queue, State.setHead_queue, queue]
  rfl

theorem controlWriteDone_writeBack {w : WriteBackFor} (task : s.head.task = .writeBack w) :
    (s.setHead h).controlWriteDone = idle (s.setList { s.list with dirty := false }) := by
  have done : (s.setHead h).controlWriteDone = idle ((s.setList { s.list with dirty := false }).setHead h) := by
    unfold State.controlWriteDone
    simp only [State.setHead_head, task_of_beforeRun same, task]
    rfl
  exact done.trans (idle_setHead (s := s.setList { s.list with dirty := false }) same)

/-- The failing block in hand is written again, whatever became of the list's image (R68, R109). -/
theorem startRewrite_after {t : State} {f : Facts} {k : Nat} {ks : List Nat} {p : Place}
    (front : t.queue.head? = some it) (failing : s.head.failing = k :: ks)
    (facts : t.drive.facts = some f) (placed : t.itemPlace it k = some p) :
    (t.setHead { h with image := [] }).startRewrite =
      rewriteBegun f k p (t.setHead { s.head with image := [] }) := by
  have left : h.failing = s.head.failing := (congrArg Head.failing same :)
  have begun := rewriteBegun_setHead (s := t.setHead { s.head with image := [] }) (h := { h with image := [] })
    (congrArg (fun b : Head => { b with image := [] }) same :) f k p
  refine (State.startRewrite_eq (s := t.setHead { h with image := [] }) (queue_of_head? front) (left.trans failing)
    facts placed).trans ?_
  exact begun

theorem endTask_store (o : ItemOutcome) (c : WriteCause) (work : h.run.map Run.work = some .store)
    (task : s.head.task = .item) (front : s.queue.head? = some it) (kind : it.kind = .store) :
    ItemEnds o c it s ((s.setHead h).endTask o c) := by
  have serves : Serves it (s.setHead h) :=
    ⟨(task_of_beforeRun same).trans task, front, fun list => nomatch work.symm.trans list⟩
  exact itemEnds_setHead same ((State.endTask_serves o c serves).2 fun fetch => nomatch kind.symm.trans fetch)

/-- A list write-back inside the item in service has failed. -/
theorem endTask_list (o : ItemOutcome) (c : WriteCause) (work : h.run.map Run.work = some .listImage)
    (task : s.head.task = .item) (front : s.queue.head? = some it) :
    (s.setHead h).endTask o c =
      let s' := (reports s [.notice (.listWriteFailed s.list.entries.length s.list.next o c)]).setHead h
      if it.kind = .flush then s'.endItem o c else (s'.setHead { h with image := [] }).startRewrite := by
  obtain ⟨rest, queue⟩ : ∃ rest, s.queue = it :: rest := ⟨_, queue_of_head? front⟩
  have task' : (s.setHead h).head.task = .item := (task_of_beforeRun same).trans task
  unfold State.endTask
  rw [task']
  refine (if_pos work).trans ?_
  dsimp only [State.notifyWriteFailed, State.notify, State.produce]
  rw [State.setOutbound_queue, State.setHead_queue, queue]
  rfl

theorem endTask_writeBack (o : ItemOutcome) (c : WriteCause) {w : WriteBackFor} (task : s.head.task = .writeBack w) :
    (s.setHead h).endTask o c = if w = .unload then idle (s.setDrive { s.drive with tried := true })
      else idle (reports s [.notice (.listWriteFailed s.list.entries.length s.list.next o c)]) := by
  have noticed : idle ((reports s [.notice (.listWriteFailed s.list.entries.length s.list.next o c)]).setHead h) =
      idle (reports s [.notice (.listWriteFailed s.list.entries.length s.list.next o c)]) :=
    idle_setHead (s := reports s [.notice (.listWriteFailed s.list.entries.length s.list.next o c)]) same
  have tried : idle ((s.setDrive { s.drive with tried := true }).setHead h) =
      idle (s.setDrive { s.drive with tried := true }) :=
    idle_setHead (s := s.setDrive { s.drive with tried := true }) same
  unfold State.endTask
  simp only [State.setHead_head, task_of_beforeRun same, task]
  cases w
  · exact noticed
  · exact tried
  · exact noticed

end Write

/-! ### How a control write ends -/

section Verdict

variable {s s' : State} {i : Instr} {r : Run} {o : ItemOutcome} {c : WriteCause}

/-- The verify pass of the control write ends with every sector matched. -/
def VerifyMatches (s : State) (r : Run) (i : Instr) : Prop :=
  s.head.pass = .verify ∧ ∃ before t after, InPass s .verify r ∧ LastAwaited r before t after ∧
    i = .verifyCompareResult r.track t.sector true ∧ ∀ x ∈ before ++ after, x.stage = .good

/-- The verify pass of the control write ends with a sector that does not match. -/
def VerifyDiffers (s : State) (r : Run) (i : Instr) : Prop :=
  ∃ before t after, InPass s .verify r ∧ LastAwaited r before t after ∧
    (ResultFails (.verifyCompareResult r.track t.sector false) r t i ∨
      i = .verifyCompareResult r.track t.sector true ∧ ∃ x ∈ before ++ after, x.stage = .bad)

theorem verifyEnds_control {u : State} (ts : List Target) (control : r.work = .store ∨ r.work = .listImage) :
    u.verifyEnds { r with targets := ts } =
      if (ts.all fun t => decide (t.stage = .good)) = true then u.controlWriteDone
      else u.endTask .writeFailed .verify := by
  unfold State.verifyEnds
  rcases control with work | work <;> rw [work]

theorem endPassIfOver_verify (ts : List Target) (inPass : InPass s .verify r) (all : roundOver ts = true) :
    (s.setHead (withTargets r ts s)).endPassIfOver =
      (s.setHead (withTargets r ts s)).verifyEnds { r with targets := ts } := by
  have ends := State.endPassIfOver_over (s := s.setHead (withTargets r ts s)) (r := { r with targets := ts }) rfl all
  rwa [show (s.setHead (withTargets r ts s)).head.pass = .verify from inPass.2.2.1] at ends

theorem not_all_good {ts : List Target} {x : Target} (member : x ∈ ts) (bad : x.stage = .bad) :
    ¬ (ts.all fun t => decide (t.stage = .good)) = true :=
  fun all => nomatch bad.symm.trans (of_decide_eq_true (List.all_eq_true.mp all x member))

theorem exec_verifyMatches (free : s.held = false) (control : r.work = .store ∨ r.work = .listImage)
    (all : VerifyMatches s r i) :
    ∃ h : Head, h.beforeRun = s.head.beforeRun ∧ h.run.map Run.work = some r.work ∧
      exec i s = .next (s.setHead h).controlWriteDone := by
  obtain ⟨_, before, t, after, inPass, last, rfl, good⟩ := all
  let ts : List Target := before ++ { t with stage := .good, seen := true } :: after
  have whole : (ts.all fun t => decide (t.stage = .good)) = true := by
    refine List.all_eq_true.mpr fun x member => decide_eq_true ?_
    rcases List.mem_append.mp member with h | h
    · exact good x (List.mem_append_left _ h)
    · rcases List.mem_cons.mp h with rfl | h
      · rfl
      · exact good x (List.mem_append_right _ h)
  refine ⟨withTargets r ts s, rfl, rfl, ?_⟩
  have runs : exec (.verifyCompareResult r.track t.sector true) s =
      .next (s.setHead (withTargets r ts s)).endPassIfOver := exec_verifies true free inPass last
  rw [runs, endPassIfOver_verify ts inPass (lastAwaited_over last _ (.inl rfl)), verifyEnds_control ts control,
    if_pos whole]

theorem exec_verifyDiffers (free : s.held = false) (control : r.work = .store ∨ r.work = .listImage)
    (differs : VerifyDiffers s r i) :
    ∃ h : Head, h.beforeRun = s.head.beforeRun ∧ h.run.map Run.work = some r.work ∧
      exec i s = .next ((s.setHead h).endTask .writeFailed .verify) := by
  obtain ⟨before, t, after, inPass, last, event⟩ := differs
  have ends (t' x : Target) (done : t'.stage = .good ∨ t'.stage = .bad) (member : x ∈ before ++ t' :: after)
      (bad : x.stage = .bad)
      (runs : exec i s = .next (s.setHead (withTargets r (before ++ t' :: after) s)).endPassIfOver) :
      ∃ h : Head, h.beforeRun = s.head.beforeRun ∧ h.run.map Run.work = some r.work ∧
        exec i s = .next ((s.setHead h).endTask .writeFailed .verify) := by
    refine ⟨withTargets r (before ++ t' :: after) s, rfl, rfl, ?_⟩
    rw [runs, endPassIfOver_verify _ inPass (lastAwaited_over last t' done), verifyEnds_control _ control,
      if_neg (not_all_good member bad)]
  rcases event with (rfl | ⟨blank, rfl⟩) | ⟨rfl, x, member, bad⟩
  · exact ends _ _ (.inr rfl) (List.mem_append_right _ (.head _)) rfl (exec_verifies false free inPass last)
  · exact ends _ _ (.inr rfl) (List.mem_append_right _ (.head _)) rfl (exec_overtaken blank free inPass last)
  · have inside : x ∈ before ++ { t with stage := .good, seen := true } :: after :=
      List.mem_append.mpr ((List.mem_append.mp member).imp_right (.tail _))
    exact ends _ x (.inl rfl) inside bad (exec_verifies true free inPass last)

/-- What the ending of a control write goes by is the same in both states. -/
structure WorkKept (s s' : State) : Prop where
  queue : s'.queue = s.queue
  task : s'.head.task = s.head.task
  run : s'.head.run = s.head.run
  failing : s'.head.failing = s.head.failing
  facts : s'.drive.facts = s.drive.facts
  list : s'.list = s.list
  extents : s'.extents = s.extents

theorem workKept_self (s : State) : WorkKept s s := ⟨rfl, rfl, rfl, rfl, rfl, rfl, rfl⟩

theorem workKept_headFails (fails : HeadFails s i o s') : WorkKept s s' := by
  rcases fails with ⟨_, _, _, _, rfl⟩ | ⟨_, _, _, rfl⟩ | ⟨_, _, _, rfl⟩ | ⟨_, _, _, _, _, rfl⟩ |
    ⟨_, _, _, _, _, rfl⟩ | ⟨_, _, _, _, _, _, _, _, _, _, rfl⟩
  · exact ⟨rfl, rfl, rfl, rfl, rfl, rfl, rfl⟩
  · exact ⟨rfl, rfl, rfl, rfl, rfl, rfl, rfl⟩
  · exact workKept_self _
  · exact workKept_self _
  · unfold indexGone
    dsimp only
    split <;> exact ⟨rfl, rfl, rfl, rfl, rfl, rfl, rfl⟩
  · exact ⟨rfl, rfl, rfl, rfl, rfl, rfl, rfl⟩

theorem WorkKept.itemPlace (kept : WorkKept s s') (it : WorkItem) (k : Nat) :
    s'.itemPlace it k = s.itemPlace it k := by
  unfold State.itemPlace State.itemPsa State.entry
  rw [kept.facts, kept.list, kept.extents]

theorem exec_controlWriteFails (free : s.held = false) (run : s.head.run = some r)
    (control : r.work = .store ∨ r.work = .listImage)
    (fails : HeadFails s i o s' ∧ c = .none ∨ VerifyDiffers s r i ∧ o = .writeFailed ∧ c = .verify ∧ s' = s) :
    WorkKept s s' ∧ ∃ h : Head, h.beforeRun = s'.head.beforeRun ∧ h.run.map Run.work = some r.work ∧
      exec i s = .next ((s'.setHead h).endTask o c) := by
  rcases fails with ⟨fails, rfl⟩ | ⟨differs, rfl, rfl, rfl⟩
  · have kept := workKept_headFails fails
    exact ⟨kept, s'.head, rfl, by rw [kept.run, run]; rfl, exec_headFails free fails⟩
  · exact ⟨workKept_self _, exec_verifyDiffers free control differs⟩

end Verdict

/-! ### What a control read leaves the mount with (R154, R155) -/

section Read

variable {s : State} {f : Facts} {c : ControlRead}

theorem State.mountSucceeds_eq (facts : s.drive.facts = some f) : s.mountSucceeds = mounted f s := by
  unfold State.mountSucceeds
  rw [facts]
  rfl

theorem State.listRead_taken (sectors : List (Nat × Block)) (facts : s.drive.facts = some f) :
    s.listRead (some sectors) = listTaken f sectors s := by
  unfold State.listRead listTaken
  rw [facts]
  dsimp only [Option.bind_some]
  cases readList f sectors with
  | none => exact s.mountFails_eq .list
  | some l =>
    dsimp only
    rw [State.startControlRead_first .extents _ nofun, State.mountSucceeds_eq (s := s.setList l) facts]
    rfl

theorem State.extentsRead_eq (b : Option Block) (facts : s.drive.facts = some f) :
    s.extentsRead b = match b.bind readExtents with
      | some es => mounted f (s.setExtents es)
      | none => mountedWithoutTable f s := by
  unfold State.extentsRead
  cases b.bind readExtents with
  | none =>
    exact State.mountSucceeds_eq
      (s := (s.setExtents (List.replicate Config.extentEntries Extent.blank)).notify .tableMissing) facts
  | some es => exact State.mountSucceeds_eq (s := s.setExtents es) facts

theorem State.controlReadFails_eq (facts : c ≠ .format → s.drive.facts = some f) :
    s.controlReadFails c = recordFailed f c s := by
  unfold State.controlReadFails recordFailed
  rw [State.clearHead_eq_idle]
  cases c
  · exact State.formatRead_none _
  · exact State.listRead_none _
  · exact State.listRead_none _
  · exact State.extentsRead_eq (s := idle s) .none (facts nofun)

theorem State.formatRead_eq (b : Block) : s.formatRead (some b) = match readFormat b with
    | none => mountFailed .format s
    | some g => readBegun .listHeader 1 0 1 [] (s.setDrive { s.drive with facts := some g }) := by
  unfold State.formatRead
  rw [Option.bind_some]
  cases readFormat b with
  | none => exact s.mountFails_eq .format
  | some g => exact State.startControlRead_first .listHeader _ nofun

/-- The list's header has been read: with no entry to read the list is taken at once. -/
theorem State.controlReadDone_header (facts : s.drive.facts = some f) :
    s.controlReadDone .listHeader = match headerCount (sectorData 0 s.head.readIn) with
      | none => listTaken f s.head.readIn (idle s)
      | some 0 => listTaken f s.head.readIn (idle s)
      | some (k + 1) => readBegun .listEntries 1 1 (entrySectors (k + 1)) s.head.readIn (idle s) := by
  unfold State.controlReadDone
  dsimp only
  rw [State.clearHead_eq_idle]
  match found : headerCount (sectorData 0 s.head.readIn) with
  | none => exact State.listRead_taken (s := idle s) _ facts
  | some 0 => exact State.listRead_taken (s := idle s) _ facts
  | some (k + 1) =>
    have begun := State.startControlRead_entries ((idle s).mapHead fun h => { h with readIn := s.head.readIn })
    rw [show ((idle s).mapHead fun h => { h with readIn := s.head.readIn }).head.readIn = s.head.readIn from rfl,
      found] at begun
    exact begun

/-- What went before does not count once the head is idle. -/
theorem recordFailed_setHead {h : Head} (track : h.track = s.head.track) (bias : h.bias = s.head.bias) :
    recordFailed f c (s.setHead h) = recordFailed f c s := by
  have left : idle (s.setHead h) = idle s := by
    unfold idle
    rw [State.setHead_head, track, bias]
    rfl
  unfold recordFailed
  rw [left]

theorem endTask_controlRead (o : ItemOutcome) (w : WriteCause) (task : s.head.task = .controlRead c)
    (facts : c ≠ .format → s.drive.facts = some f) : s.endTask o w = recordFailed f c s := by
  unfold State.endTask
  rw [task]
  exact State.controlReadFails_eq facts

end Read

/-! ### The rounds of a control read (R112, R115) -/

section Round

variable {s : State} {r : Run} {c : ControlRead} {f : Facts} {before after : List Target} {t : Target}
  (free : s.held = false) (task : s.head.task = .controlRead c) (inPass : InPass s .read r)
  (last : LastAwaited r before t after)

/-- The head with a sector kept that a control read has delivered. -/
def keepsSector (n : Nat) (d : Block) (s : State) : State :=
  s.setHead { s.head with readIn := s.head.readIn ++ [(n, d)] }

include inPass in
theorem endPassIfOver_read {u : State} (ts : List Target) (head : u.head.pass = s.head.pass)
    (all : roundOver ts = true) :
    (u.setHead (withTargets r ts u)).endPassIfOver =
      (u.setHead (withTargets r ts u)).readRoundEnds { r with targets := ts } := by
  have ends := State.endPassIfOver_over (s := u.setHead (withTargets r ts u)) (r := { r with targets := ts }) rfl all
  rwa [show (u.setHead (withTargets r ts u)).head.pass = .read from head.trans inPass.2.2.1] at ends

include free inPass last in
/-- A control sector is kept, up to the ending of its round. -/
theorem exec_keepsSector (d : Block) (n : Nat) (work : r.work = .control) :
    exec (.readDataEvent r.track t.sector (.delivered d n)) s = .next (State.readRoundEnds
      { r with targets := before ++ { t with stage := .good, seen := true } :: after }
      ((keepsSector t.sector d s).setHead
        (withTargets r (before ++ { t with stage := .good, seen := true } :: after) (keepsSector t.sector d s)))) := by
  have reads : exec (.readDataEvent r.track t.sector (.delivered d n)) s =
      .next (s.readData r.track t.sector (.delivered d n)) := s.unlessHeld_free _ free
  rw [reads]
  unfold State.readData
  rw [State.awaitedTarget_split inPass last.1 (lastAwaited_alone last) last.2.1]
  dsimp only
  rw [if_pos work, State.mapTargetAt_split _ inPass.2.2.2 last.1 (lastAwaited_alone last)]
  exact congrArg _ (endPassIfOver_read (u := keepsSector t.sector d s) inPass _ rfl
    (lastAwaited_over last { t with stage := .good, seen := true } (.inl rfl)))

include task in
theorem readRoundEnds_spoilt {u : State} {ts : List Target} (facts : c ≠ .format → s.drive.facts = some f)
    (like : u = s ∨ ∃ n d, u = keepsSector n d s) (none : ∀ x ∈ ts, ¬ Retried x) (some : ∃ x ∈ ts, x.stage = .bad) :
    (u.setHead (withTargets r ts u)).readRoundEnds { r with targets := ts } = recordFailed f c s := by
  rw [State.readRoundEnds_failed _ none some]
  rcases like with rfl | ⟨n, d, rfl⟩
  · exact (endTask_controlRead (s := u.setHead (withTargets r ts u)) _ _ task facts).trans
      (recordFailed_setHead rfl rfl)
  · let h : Head := withTargets r ts (keepsSector n d s)
    exact (endTask_controlRead (s := s.setHead h) _ _ task facts).trans (recordFailed_setHead rfl rfl)

include free task inPass last in
/-- A sector that was uncorrectable twice before fails the record with the third time. -/
theorem exec_spoilsRecord {i : Instr} (facts : c ≠ .format → s.drive.facts = some f)
    (none : ∀ x ∈ before ++ after, ¬ Retried x) (spent : 2 ≤ t.attempts)
    (fails : ResultFails (.readDataEvent r.track t.sector .uncorrectable) r t i) :
    exec i s = .next (recordFailed f c s) := by
  rw [exec_readFails free inPass last fails]
  rw [endPassIfOver_read inPass _ rfl (lastAwaited_over last t.failed (.inr rfl))]
  refine congrArg _ (readRoundEnds_spoilt task facts (.inl rfl) (fun x member => ?_)
    ⟨t.failed, List.mem_append_right _ (.head _), rfl⟩)
  rcases List.mem_append.mp member with h | h
  · exact none x (List.mem_append_left _ h)
  · rcases List.mem_cons.mp h with rfl | h
    · intro again
      have fewer : t.attempts + 1 < 3 := again.2
      omega
    · exact none x (List.mem_append_right _ h)

end Round

end Sys2Proof.Machine

section

open Sys2Proof Sys2Proof.Machine Sys2Proof.Safety

/-- Settles O49. -/
theorem controlWritesAreServedToTheirEnd : Obligations.ControlWritesAreServedToTheirEnd := by
  unfold Obligations.ControlWritesAreServedToTheirEnd
  intro s free
  have serves : exec .writeBackRequestServed s = .next s.serveRequest := s.unlessHeld_free _ free
  refine ⟨fun calm => serves.trans (congrArg _ (s.serveRequest_passed calm)),
    fun raised idle clean => serves.trans (congrArg _ (s.serveRequest_clean raised idle clean)),
    fun raised idle dirty => serves.trans (congrArg _ (s.serveRequest_dirty raised idle dirty)), ?_⟩
  intro i r run clean succeeds differs
  refine ⟨fun it all work task front kind => ?_, fun it all work task front kind => ?_,
    fun it f k ks p all work task front kind failing facts placed => ?_, fun w all work task => ?_, ?_⟩
  · obtain ⟨h, same, works, runs⟩ := exec_verifyMatches free (.inl work) all
    rw [work] at works
    exact ⟨_, runs, controlWriteDone_store same works task front kind⟩
  · obtain ⟨h, same, works, runs⟩ := exec_verifyMatches free (.inr work) all
    rw [work] at works
    rw [controlWriteDone_list same works task front] at runs
    exact ⟨_, runs.trans (congrArg _ (if_pos kind)),
      blockDone_ends (s := clean) same front (by rw [kind]; decide)⟩
  · obtain ⟨h, same, works, runs⟩ := exec_verifyMatches free (.inr work) all
    rw [work] at works
    rw [controlWriteDone_list same works task front] at runs
    refine runs.trans (congrArg _ ((if_neg (by rw [kind]; decide)).trans ?_))
    exact startRewrite_after (s := s) (t := clean) same front failing facts placed
  · obtain ⟨h, same, _, runs⟩ := exec_verifyMatches free (.inr work) all
    rw [controlWriteDone_writeBack same task] at runs
    exact runs
  · intro o c s' fails noticed
    refine ⟨fun it work task front kind => ?_, fun it work task front kind => ?_,
      fun it f k ks p work task front kind failing facts placed => ?_, fun w work task => ?_⟩
    · obtain ⟨kept, h, same, works, runs⟩ := exec_controlWriteFails free run (.inl work) fails
      rw [work] at works
      exact ⟨_, runs, endTask_store same o c works (kept.task.trans task) (kept.queue ▸ front) kind⟩
    · obtain ⟨kept, h, same, works, runs⟩ := exec_controlWriteFails free run (.inr work) fails
      rw [work] at works
      rw [endTask_list same o c works (kept.task.trans task) (kept.queue ▸ front), kept.list] at runs
      refine ⟨_, runs.trans (congrArg _ (if_pos kind)), ?_⟩
      exact itemEnds_setHead same (State.endItem_ends (s := noticed.setHead h)
        (queue_of_head? (kept.queue ▸ front)) o c (by rw [kind]; decide))
    · obtain ⟨kept, h, same, works, runs⟩ := exec_controlWriteFails free run (.inr work) fails
      rw [work] at works
      rw [endTask_list same o c works (kept.task.trans task) (kept.queue ▸ front), kept.list] at runs
      refine runs.trans (congrArg _ ((if_neg (by rw [kind]; decide)).trans ?_))
      exact startRewrite_after (s := s') (t := noticed) same (kept.queue ▸ front) (kept.failing.trans failing)
        (kept.facts.trans facts) ((kept.itemPlace it k).trans placed)
    · obtain ⟨kept, h, same, works, runs⟩ := exec_controlWriteFails free run (.inr work) fails
      rw [endTask_writeBack same o c (kept.task.trans task), kept.list] at runs
      exact runs

/-- Settles O50. -/
theorem controlReadsServeTheMount : Obligations.ControlReadsServeTheMount := by
  unfold Obligations.ControlReadsServeTheMount
  intro s i r c f free task run facts
  refine ⟨fun before t after d n work inPass last good event => ?_,
    fun before t after d n work inPass last more => ?_,
    fun before t after res work inPass last none spoilt => ?_,
    fun before t after blank work inPass last none spent =>
      exec_spoilsRecord free task inPass last facts none spent (.inr ⟨blank, rfl⟩),
    fun o s' fails => ?_⟩
  · intro sectors record
    subst event
    have all : ∀ x ∈ before ++ { t with stage := .good, seen := true } :: after, x.stage = .good := by
      intro x member
      rcases List.mem_append.mp member with h | h
      · exact good x (List.mem_append_left _ h)
      · rcases List.mem_cons.mp h with rfl | h
        · rfl
        · exact good x (List.mem_append_right _ h)
    let v : State := (keepsSector t.sector d s).setHead
      (withTargets r (before ++ { t with stage := .good, seen := true } :: after) (keepsSector t.sector d s))
    have done : exec (.readDataEvent r.track t.sector (.delivered d n)) s = .next (v.controlReadDone c) := by
      rw [exec_keepsSector free inPass last d n work, State.readRoundEnds_good _ all,
        show v.head.task = .controlRead c from task]
    rw [done]
    have header (found : c = .listHeader) : v.controlReadDone c = match headerCount record with
        | none => listTaken f sectors (idle s)
        | some 0 => listTaken f sectors (idle s)
        | some (k + 1) => readBegun .listEntries 1 1 (entrySectors (k + 1)) sectors (idle s) := by
      rw [found]
      exact State.controlReadDone_header (s := v) (facts (by rw [found]; nofun))
    have format (found : c = .format) : v.controlReadDone c = match readFormat record with
        | none => mountFailed .format (idle s)
        | some g => readBegun .listHeader 1 0 1 [] ((idle s).setDrive { s.drive with facts := some g }) := by
      rw [found]
      exact State.formatRead_eq (s := idle s) record
    refine ⟨fun found bad => ?_, fun g found valid => ?_, fun found short => ?_, fun k found count pos => ?_,
      fun found => ?_, fun found => ?_⟩
    · rw [format found, bad]
    · rw [format found, valid]
    · rw [header found]
      rcases short with count | count <;> rw [count]
    · obtain ⟨j, rfl⟩ := Nat.exists_eq_succ_of_ne_zero (Nat.pos_iff_ne_zero.mp pos)
      rw [header found, count]
      rfl
    · rw [found]
      exact congrArg _ (State.listRead_taken (s := idle s) sectors (facts (by rw [found]; nofun)))
    · rw [found]
      exact congrArg _ (State.extentsRead_eq (s := idle s) (some record) (facts (by rw [found]; nofun)))
  · rw [exec_keepsSector free inPass last d n work]
    refine congrArg _ (State.readRoundEnds_again (v := keepsSector t.sector d s) (s := keepsSector t.sector d s) ?_)
    obtain ⟨x, member, again⟩ := more
    exact ⟨x, List.mem_append.mpr ((List.mem_append.mp member).imp_right (.tail _)), again⟩
  · rcases spoilt with ⟨rfl, spent⟩ | ⟨delivered, x, member, bad⟩
    · exact exec_spoilsRecord free task inPass last facts none spent (.inl rfl)
    · match res with
      | .uncorrectable => exact absurd rfl delivered
      | .delivered d n =>
        rw [exec_keepsSector free inPass last d n work]
        refine congrArg _ (readRoundEnds_spoilt task facts (.inr ⟨_, _, rfl⟩) (fun y inside => ?_)
          ⟨x, List.mem_append.mpr ((List.mem_append.mp member).imp_right (.tail _)), bad⟩)
        rcases List.mem_append.mp inside with h | h
        · exact none y (List.mem_append_left _ h)
        · rcases List.mem_cons.mp h with rfl | h
          · exact fun again => nomatch again.1
          · exact none y (List.mem_append_right _ h)
  · have kept := workKept_headFails fails
    rw [exec_headFails free fails]
    exact congrArg _ (endTask_controlRead o .none (kept.task.trans task) fun h => kept.facts.trans (facts h))

end

end
